-- ==== Sys2Proof/Word.lean ====
section
/-! DEFINITION. The unsigned integer types of the block (00_scope.md R9): a byte is a `u8`, a checksum a
`u16`, a measurement register a `u32`, a command word 12 bits (30_encoding.md R85). -/

namespace Sys2Proof

/-- A `u8` (R9). -/
abbrev Byte := BitVec 8

/-- A `u16` (R9): the checksum accumulator, a table entry, a 16-bit frame field. -/
abbrev Half := BitVec 16

/-- A `u32` (R9, R27): the bit pattern of one measurement. -/
abbrev Word := BitVec 32

/-- The 12-bit command word `{op[3:0], arg[7:0]}` (R85). -/
abbrev CommandWord := BitVec 12

end Sys2Proof
end

