-- ==== Sys2Proof/Config.lean ====
section
/-! DEFINITION. What a build of the block fixes (the parameters of 00_scope.md R7 that a model may take as
arguments) and the FREE VALUES: what the spec leaves unspecified after reset (10_state.md R38, 93 U7, U8, U11:
"any value"). A free value has no body, so a claim that is proved holds for every value of it. -/

namespace Sys2Proof

/-- `FLOAT_PERM` (R7, R149): `m j` says which wire byte of a four-byte group becomes byte `j`, least
significant first, of the 32-bit value. -/
structure FloatPerm where
  m0 : Fin 4
  m1 : Fin 4
  m2 : Fin 4
  m3 : Fin 4
deriving DecidableEq, Repr

/-- The parameters of R7 marked *argument*. Their decided defaults are `Machine.defaultParams`. -/
structure Params where
  /-- `RX_CAP`: bytes in the receive buffer; at least 37. -/
  rxCap : Nat
  /-- `FLOAT_PERM`. -/
  floatPerm : FloatPerm
  /-- `STRICT_TRAIL`: whether a buffer longer than its frame is `Malformed`. -/
  strictTrail : Bool
deriving DecidableEq, Repr

namespace Config

/-- FREE VALUE (DESIGN CHOICE, log 3): what `MEAS[k]` holds after the reset number `epoch` (R28, U7). -/
opaque freeMeas : (epoch k : Nat) → Word

/-- FREE VALUE (DESIGN CHOICE, log 3): what `REQ_ARG` holds after the reset number `epoch` (R38, U8). -/
opaque freeReqArg : (epoch : Nat) → Byte

/-- FREE VALUE (DESIGN CHOICE, log 3): what `DISC_VAL` holds after the reset number `epoch` (R38, U8); 2040 bits (R29). -/
opaque freeDiscVal : (epoch : Nat) → BitVec 2040

/-- FREE VALUE (DESIGN CHOICE, log 3): what `ASG_VAL` holds after the reset number `epoch` (R38, U8). -/
opaque freeAsgVal : (epoch : Nat) → Byte

/-- FREE VALUE (DESIGN CHOICE, log 4): what `TXBUF[i]` reads as when nothing has written it since the reset number `epoch`
(R38, U8, U10). -/
opaque freeTxByte : (epoch i : Nat) → Byte

/-- FREE VALUE (DESIGN CHOICE, log 4): what `RXBUF[i]` reads as when nothing has written it since the reset number `epoch`
(R38, U8, U11). -/
opaque freeRxByte : (epoch i : Nat) → Byte

end Config

end Sys2Proof
end

