-- ==== Sys2Proof/Machine/Constants.lean ====
section
/-! DEFINITION. The constants of 00_scope.md R6 and the decided values of R7. -/

namespace Sys2Proof.Machine

/-- `CRC_INIT` (R6). -/
def crcInitValue : Half := 0xFFFF

/-- `CRC_POLY` (R6, R100): the constant of the right-shifting form, used as it stands. -/
def crcPoly : Half := 0xA001

/-- `BROADCAST` (R6): also the value of `ADDR` that means "unknown" (R21). -/
def broadcast : Byte := 0x00

/-- `FC_READ` (R6). -/
def fcRead : Byte := 0x04

/-- `FC_WRITE` (R6). -/
def fcWrite : Byte := 0x06

/-- `REG_ADDR` (R6): register offset of the assignable probe address. -/
def regAddr : Half := 0x0020

/-- `REG_DATA` (R6): register offset of the first measurement register. -/
def regData : Half := 0x0000

/-- `N_REGS` (R6): 16-bit registers in the measurement block. -/
def nRegs : Half := 16

/-- `CRC_LEN` (R6): bytes of the checksum field. -/
def crcLen : Nat := 2

/-- `READ_BYTE_COUNT` (R7, R148): the only byte count accepted in a read reply. -/
def readByteCount : Nat := 32

/-- `TX_CAP` (R7): bytes in the transmit buffer. -/
def txCap : Nat := 8

/-- `DISC_W` (R7, R29): bits of the discovery value register. -/
def discWidth : Nat := 2040

/-- The decided defaults of R7: `RX_CAP` = 260, `FLOAT_PERM` = (2, 3, 0, 1), `STRICT_TRAIL` = false. -/
def defaultParams : Params where
  rxCap := 260
  floatPerm := { m0 := 2, m1 := 3, m2 := 0, m3 := 1 }
  strictTrail := false

end Sys2Proof.Machine
end

