-- ==== Sys2Proof/Machine/Operands.lean ====
section
/-! DEFINITION. How operands and multi-byte fields are taken apart and put together: the notation of
00_scope.md R9, R10 and the field assembly of 30_encoding.md R78. Every field has its own byte order
(20_memory.md R52). -/

namespace Sys2Proof.Machine

/-- `lo8(v) = v[7:0]` (R9). -/
def lo8 (v : Half) : Byte := v.setWidth 8

/-- `hi8(v) = v[15:8]` (R9). -/
def hi8 (v : Half) : Byte := (v >>> 8).setWidth 8

/-- `be16(h, l) = {h, l}` (R9): the high byte stands first. -/
def be16 (h l : Byte) : Half := h ++ l

/-- `le16(l, h) = {h, l}` (R9): the low byte stands first. -/
def le16 (l h : Byte) : Half := h ++ l

/-- A 16-bit request field, high byte first (R120, D8). -/
def be16Bytes (v : Half) : List Byte := [hi8 v, lo8 v]

/-- A checksum field, low byte first (R120). -/
def le16Bytes (v : Half) : List Byte := [lo8 v, hi8 v]

/-- `B[i]` (R10). The parser reads only indexes below `len(B)` (R55); the value past the end is never used
(DESIGN CHOICE, log 11). -/
def byteAt (B : List Byte) (i : Nat) : Byte := B.getD i 0

/-- The operand byte `arg[7:0]` of a command word (R85). -/
def commandArg (w : CommandWord) : Byte := w.setWidth 8

/-- A command word `{op, arg}` (R85). -/
def commandOf (op : BitVec 4) (arg : Byte) : CommandWord := op ++ arg

/-- The wire byte of a group `w0 w1 w2 w3` that an index of `FLOAT_PERM` names (R149). -/
def wireByte (w0 w1 w2 w3 : Byte) (j : Fin 4) : Byte :=
  match j with
  | 0 => w0
  | 1 => w1
  | 2 => w2
  | 3 => w3

/-- `float_bits` (R149): `{m_3, m_2, m_1, m_0}` with `m_j = w[FLOAT_PERM[j]]`. -/
def floatBits (p : FloatPerm) (w0 w1 w2 w3 : Byte) : Word :=
  wireByte w0 w1 w2 w3 p.m3 ++ wireByte w0 w1 w2 w3 p.m2 ++
    wireByte w0 w1 w2 w3 p.m1 ++ wireByte w0 w1 w2 w3 p.m0

/-- The sum of R151 over data bytes: byte `i` contributes `byte_i << (8*i)`, exactly. -/
def positional : List Byte → Nat
  | [] => 0
  | b :: bs => b.toNat + 256 * positional bs

/-- `disc_value(B, L)` (R151): the value of the `L` data bytes that begin at index 3. -/
def discValue (B : List Byte) (L : Nat) : Nat := positional ((B.drop 3).take L)

end Sys2Proof.Machine
end

