-- ==== Sys2Proof/Machine/Builder.lean ====
section
/-! DEFINITION. The bytes of the frames: the framer's pure functions (41_framer.md R120 to R124) and the reply
layouts (30_encoding.md R75 to R77). Index 0 is the byte sent or received first (R10, R51). -/

namespace Sys2Proof.Machine

/-- `frame(body)` (R120): the body followed by its checksum, low byte first. -/
def frame (body : List Byte) : List Byte := body ++ le16Bytes (crc16 body)

/-- The body of the discovery request (R72, R121): broadcast, read, offset `REG_ADDR`, count 1. -/
def discoverBody : List Byte := [broadcast, fcRead] ++ be16Bytes regAddr ++ be16Bytes 1

/-- The body of the assignment request (R73, R122): broadcast, write, offset `REG_ADDR`, value `zext_16(n)`. -/
def assignBody (n : Byte) : List Byte :=
  [broadcast, fcWrite] ++ be16Bytes regAddr ++ be16Bytes (n.setWidth 16)

/-- The body of the read request (R74, R123): target `a`, read, offset `REG_DATA`, count `N_REGS`. -/
def readBody (a : Byte) : List Byte := [a, fcRead] ++ be16Bytes regData ++ be16Bytes nRegs

/-- `build_discover()` (R121). -/
def buildDiscover : List Byte := frame discoverBody

/-- `build_assign(n)` (R122). -/
def buildAssign (n : Byte) : List Byte := frame (assignBody n)

/-- `build_read(a)` (R123). -/
def buildRead (a : Byte) : List Byte := frame (readBody a)

/-- The bytes of an addressed read reply (R75): address, function, count, data, checksum bytes `c d`. -/
def readReply (a : Byte) (data : List Byte) (c d : Byte) : List Byte :=
  [a, fcRead, 0x20] ++ data ++ [c, d]

/-- The bytes of a broadcast discovery reply (R76); the count is the number of data bytes. -/
def discoverReply (data : List Byte) (c d : Byte) : List Byte :=
  [broadcast, fcRead, BitVec.ofNat 8 data.length] ++ data ++ [c, d]

/-- The bytes of a broadcast assignment reply (R77): `x` at index 4 is not examined, `v` at index 5 is the
assigned address value. -/
def assignReply (x v c d : Byte) : List Byte :=
  [broadcast, fcWrite] ++ be16Bytes regAddr ++ [x, v, c, d]

end Sys2Proof.Machine
end

