-- ==== Sys2Proof/Syntax.lean ====
section
/-! DEFINITION. The rows of spec/opcode_table.json: the seven operations of 30_encoding.md R86 and the six
frames of R72 to R77, and what stands outside the block as their encoding. -/

namespace Sys2Proof

/-- Which way a frame passes on the wire ("direction" in the table): a request goes from the block to the
probe, a reply from the probe to the block. The two assignment frames have the same layout (R77), so the bytes
alone do not tell them apart. -/
inductive Direction where
  | request
  | reply
deriving DecidableEq, Repr

/-- What an encoded row is (R90): a 12-bit command word (format `CMD`) or a byte sequence on the wire. -/
inductive Code where
  | command (w : CommandWord)
  | frame (dir : Direction) (bytes : List Byte)
deriving DecidableEq, Repr

/-- One constructor per row of the opcode table. -/
inductive Instr where
  /-- `CRC.INIT` (R105). -/
  | crcInit
  /-- `CRC.UPD b` (R106). -/
  | crcUpd (b : Byte)
  /-- `REQ.DISC` (R125). -/
  | reqDisc
  /-- `REQ.ASSIGN n` (R126). -/
  | reqAssign (n : Byte)
  /-- `REQ.READ` (R127). -/
  | reqRead
  /-- `RSP.PARSE` (R155). -/
  | rspParse
  /-- `RESET` (R180). -/
  | reset
  /-- `FRAME.REQ.DISC` (R72, R121): every byte is constant. -/
  | frameReqDisc
  /-- `FRAME.REQ.ASSIGN` (R73, R122): new address `n`, checksum bytes `c d`. -/
  | frameReqAssign (n c d : Byte)
  /-- `FRAME.REQ.READ` (R74, R123): target address `a`, checksum bytes `c d`. -/
  | frameReqRead (a c d : Byte)
  /-- `FRAME.RSP.READ` (R75, R147): answering address `a`, 32 data bytes, checksum bytes `c d`. -/
  | frameRspRead (a : Byte) (data : List Byte) (c d : Byte)
  /-- `FRAME.RSP.DISC` (R76, R150): 0 to 255 data bytes (their number is the count byte), checksum bytes
  `c d`. -/
  | frameRspDisc (data : List Byte) (c d : Byte)
  /-- `FRAME.RSP.ASSIGN` (R77, R152): `x` not examined, assigned address value `v`, checksum bytes `c d`. -/
  | frameRspAssign (x v c d : Byte)
deriving DecidableEq, Repr

end Sys2Proof
end

