-- ==== Sys2Proof/WellFormed.lean ====
section
/-! DEFINITION. What an operand of an instruction must satisfy to be one that the row of the table names. -/

namespace Sys2Proof

open Sys2Proof.Machine

/-- Every operand of an operation fits by its type. A request frame carries its own checksum (R73, R74) and a
read request and a read reply a unicast address (R74, R75, R83); a read reply carries 32 data bytes (R75) and a
discovery reply at most 255 (R76). The checksum bytes of a REPLY are any bytes: R90 says that a reply row's match
is what the parser demands beyond the checksum. -/
def Instr.wellFormed : Instr → Bool
  | .crcInit => true
  | .crcUpd _ => true
  | .reqDisc => true
  | .reqAssign _ => true
  | .reqRead => true
  | .rspParse => true
  | .reset => true
  | .frameReqDisc => true
  | .frameReqAssign n c d => le16 c d == crc16 (assignBody n)
  | .frameReqRead a c d => a != broadcast && le16 c d == crc16 (readBody a)
  | .frameRspRead a data _ _ => a != broadcast && data.length == readByteCount
  | .frameRspDisc data _ _ => decide (data.length ≤ 255)
  | .frameRspAssign _ _ _ _ => true

end Sys2Proof
end

