-- ==== Sys2Proof/Decode.lean ====
section
/-! DEFINITION. The decoder (total, rejecting by name) and, after it, the encoder, both from the rows of
spec/opcode_table.json (30_encoding.md R72 to R77, R80, R86, R87, R90). -/

namespace Sys2Proof

open Sys2Proof.Machine

/-- Why a code selects no row of the table. -/
inductive DecodeError where
  /-- A reserved command word (R87). -/
  | reservedCommand (w : CommandWord)
  /-- The bytes match no frame row of their direction (R90). -/
  | noFrameRow
  /-- The leading bytes match a frame row but the sequence has not that frame's length (R80). -/
  | frameLength
deriving DecidableEq, Repr

/-- A command word selects a row when `(w & mask) = match` (R90). -/
def selects (w mat mask : CommandWord) : Bool := w &&& mask == mat

/-- A frame matches a row when every leading byte `b` has `(b & mask_byte) = match_byte` (R90). The pattern
lists (match_byte, mask_byte). -/
def frameMatches : List (Byte × Byte) → List Byte → Bool
  | [], _ => true
  | _ :: _, [] => false
  | (m, k) :: ps, b :: bs => (b &&& k == m) && frameMatches ps bs

/-- `match`, `mask` of `FRAME.REQ.DISC`: 00040020000131D1, FFFFFFFFFFFFFFFF. -/
def rowReqDisc : List (Byte × Byte) :=
  [(0x00, 0xFF), (0x04, 0xFF), (0x00, 0xFF), (0x20, 0xFF), (0x00, 0xFF), (0x01, 0xFF), (0x31, 0xFF), (0xD1, 0xFF)]

/-- `match`, `mask` of `FRAME.REQ.ASSIGN`: 000600200000, FFFFFFFFFF00. -/
def rowReqAssign : List (Byte × Byte) :=
  [(0x00, 0xFF), (0x06, 0xFF), (0x00, 0xFF), (0x20, 0xFF), (0x00, 0xFF), (0x00, 0x00)]

/-- `match`, `mask` of `FRAME.REQ.READ`: 000400000010, 00FFFFFFFFFF. -/
def rowReqRead : List (Byte × Byte) :=
  [(0x00, 0x00), (0x04, 0xFF), (0x00, 0xFF), (0x00, 0xFF), (0x00, 0xFF), (0x10, 0xFF)]

/-- `match`, `mask` of `FRAME.RSP.READ`: 000420, 00FFFF. -/
def rowRspRead : List (Byte × Byte) := [(0x00, 0x00), (0x04, 0xFF), (0x20, 0xFF)]

/-- `match`, `mask` of `FRAME.RSP.DISC`: 0004, FFFF. -/
def rowRspDisc : List (Byte × Byte) := [(0x00, 0xFF), (0x04, 0xFF)]

/-- `match`, `mask` of `FRAME.RSP.ASSIGN`: 00060020, FFFFFFFF. -/
def rowRspAssign : List (Byte × Byte) := [(0x00, 0xFF), (0x06, 0xFF), (0x00, 0xFF), (0x20, 0xFF)]

/-- The operation that a command word selects (R86); a word that selects no row is reserved (R87). -/
def decodeCommand (w : CommandWord) : Except DecodeError Instr :=
  if selects w 0x100 0xFFF then .ok .crcInit
  else if selects w 0x200 0xF00 then .ok (.crcUpd (commandArg w))
  else if selects w 0x400 0xFFF then .ok .reqDisc
  else if selects w 0x500 0xF00 then .ok (.reqAssign (commandArg w))
  else if selects w 0x600 0xFFF then .ok .reqRead
  else if selects w 0x800 0xFFF then .ok .rspParse
  else if selects w 0xF00 0xFFF then .ok .reset
  else .error (.reservedCommand w)

/-- A request frame is always 8 bytes long (R80). -/
def decodeRequest (B : List Byte) : Except DecodeError Instr :=
  if B.length ≠ 8 then .error .frameLength
  else if frameMatches rowReqDisc B then .ok .frameReqDisc
  else if frameMatches rowReqAssign B then .ok (.frameReqAssign (byteAt B 5) (byteAt B 6) (byteAt B 7))
  else if frameMatches rowReqRead B then .ok (.frameReqRead (byteAt B 0) (byteAt B 6) (byteAt B 7))
  else .error .noFrameRow

/-- A reply frame: an assignment reply is 8 bytes, a read or discovery reply 3 + `len` + 2 (R80). The address
byte tells a discovery reply (`0x00`) from a read reply (1 to 255, R75; log 8). -/
def decodeReply (B : List Byte) : Except DecodeError Instr :=
  if frameMatches rowRspDisc B then
    if B.length < 5 ∨ B.length ≠ (byteAt B 2).toNat + 5 then .error .frameLength
    else .ok (.frameRspDisc ((B.drop 3).take (byteAt B 2).toNat)
      (byteAt B ((byteAt B 2).toNat + 3)) (byteAt B ((byteAt B 2).toNat + 4)))
  else if byteAt B 0 ≠ broadcast ∧ frameMatches rowRspRead B then
    if B.length ≠ 37 then .error .frameLength
    else .ok (.frameRspRead (byteAt B 0) ((B.drop 3).take 32) (byteAt B 35) (byteAt B 36))
  else if frameMatches rowRspAssign B then
    if B.length ≠ 8 then .error .frameLength
    else .ok (.frameRspAssign (byteAt B 4) (byteAt B 5) (byteAt B 6) (byteAt B 7))
  else .error .noFrameRow

/-- The decoder, total on any code. -/
def decode : Code → Except DecodeError Instr
  | .command w => decodeCommand w
  | .frame .request B => decodeRequest B
  | .frame .reply B => decodeReply B

/-- The encoder: the command word of an operation (R86), the bytes of a frame (R72 to R77). -/
def encode : Instr → Code
  | .crcInit => .command (commandOf 0x1 0x00)
  | .crcUpd b => .command (commandOf 0x2 b)
  | .reqDisc => .command (commandOf 0x4 0x00)
  | .reqAssign n => .command (commandOf 0x5 n)
  | .reqRead => .command (commandOf 0x6 0x00)
  | .rspParse => .command (commandOf 0x8 0x00)
  | .reset => .command (commandOf 0xF 0x00)
  | .frameReqDisc => .frame .request buildDiscover
  | .frameReqAssign n c d => .frame .request (assignBody n ++ [c, d])
  | .frameReqRead a c d => .frame .request (readBody a ++ [c, d])
  | .frameRspRead a data c d => .frame .reply (readReply a data c d)
  | .frameRspDisc data c d => .frame .reply (discoverReply data c d)
  | .frameRspAssign x v c d => .frame .reply (assignReply x v c d)

/-- The first `n` bytes of a number whose byte `i` is bits `8i+7 .. 8i`. -/
def bytesOfNat : Nat → Nat → List Byte
  | 0, _ => []
  | n + 1, w => BitVec.ofNat 8 w :: bytesOfNat n (w / 256)

/-- How long the reply frame is that begins with `B`, the count byte at index 2 (R80). -/
def replyLength (B : List Byte) : Nat :=
  if byteAt B 1 = fcWrite then 8 else (byteAt B 2).toNat + 5

/-- The code whose bits are `w`, as the opcode table numbers them: up to 16 bits a command word (12 bits and
four zeros), above that a frame of `nbits / 8` bytes with byte 0 in bits 7 to 0, every byte above `nbits` zero.
A frame is taken as a request where a request row matches it, as a reply otherwise (DESIGN CHOICE, log 8). -/
def codeOfTableWord (nbits w : Nat) : Code :=
  if nbits ≤ 16 then
    if w < 4096 then .command (BitVec.ofNat 12 w) else .frame .request (bytesOfNat 2 w)
  else
    let B := bytesOfNat (nbits / 8) w ++ List.replicate 260 0
    match decodeRequest (B.take 8) with
    | .ok _ => .frame .request (B.take 8)
    | .error _ => .frame .reply (B.take (replyLength B))

/-- The instruction that the decoder reads from bits `w` numbered as the opcode table numbers them. -/
def decodeTableWord (nbits w : Nat) : Option Instr :=
  match decode (codeOfTableWord nbits w) with
  | .ok i => some i
  | .error _ => none

end Sys2Proof
end

