-- ==== Sys2Proof/Machine/State.lean ====
section
/-! DEFINITION. The state of the block (10_state.md R20: "the registers and buffers of this table and nothing
else"), what the outside can do to it (43_system.md R181 to R185), and why a step can stop
(60_exceptions.md R197). -/

namespace Sys2Proof.Machine

/-- A request kind (R14, R23): which of the three requests produced the reply. `REQ_KIND` and `OUT_KIND` hold an
`Option Kind`, whose `none` is the spec's own value `None`. -/
inductive Kind where
  | discover
  | assign
  | read
deriving DecidableEq, Repr

/-- The codes of `OUTCOME` (R31). The reserved codes 6 and 7 are never written (93 U6). -/
inductive OutcomeCode where
  | none
  | valid
  | checksumMismatch
  | malformed
  | unexpected
  | noAddressAssigned
deriving DecidableEq, Repr

/-- `MEAS[0..7]` (R27), under the document's names in its list order (D31). -/
structure MeasSet where
  fuelLevel : Word
  waterLevel : Word
  fuelAvgTemp : Word
  pointTempA : Word
  pointTempB : Word
  pointTempC : Word
  pointTempD : Word
  pointTempE : Word
deriving DecidableEq, Repr

/-- The payload of a `Valid` reply (R140). -/
inductive Payload where
  /-- The discovered address value, a natural number below 2^2040. -/
  | discover (v : Nat)
  /-- The assigned address value. -/
  | assign (v : Byte)
  /-- The eight bit patterns. -/
  | read (m : MeasSet)
deriving DecidableEq, Repr

/-- What `parse` returns (R140). -/
inductive ParseResult where
  | valid (p : Payload)
  | checksumMismatch
  | malformed
  | unexpected
deriving DecidableEq, Repr

/-- A byte buffer (R11, R50): (index, byte) pairs in canonical form, indexes strictly rising. A byte that
nothing has written since the last reset HOLDS NO VALUE (R38) and is not listed; what it reads as is the free
value of `State.readTx` and `State.readRx` (DESIGN CHOICE, log 4). -/
abbrev Memory := List Host.Cell

/-- What a host access names (the rows of R20). -/
inductive HostReg where
  | addr
  | crc
  | reqKind
  | reqArg
  | txbuf (i : Nat)
  | txLen
  | rxbuf (i : Nat)
  | rxLen
  | meas (k : Fin 8)
  | measValid
  | outcome
  | outKind
  | discVal
  | asgVal
deriving DecidableEq, Repr

/-- What the outside can do, one act a step. -/
inductive HostAct where
  /-- Power comes on: the same effect as `RESET` (R180, R220). -/
  | powerOn
  /-- A row of the opcode table is presented: the host issues a command word (R85), or a frame of R72 to R77
  is presented. -/
  | issue (c : Code)
  /-- `HOST.RX [bytes]` (R181): any bytes that the Transport's read returned. -/
  | rx (bytes : List Byte)
  /-- `HOST.TX` (R184). -/
  | tx
  /-- `HOST.RD r` (R182, R183, R185). -/
  | read (r : HostReg)
  /-- A single write of the host (R181: "any number of separate accesses"). Only `RXBUF[i]` and `RX_LEN` may be
  written (R20); a byte access carries the low 8 bits of `v` (DESIGN CHOICE, log 9). -/
  | write (r : HostReg) (v : Nat)
deriving DecidableEq, Repr

/-- What the last access or pure function gave back to the one who asked (the model's own record, DESIGN CHOICE, log 6). -/
inductive Answer where
  | none
  /-- A register's content as an unsigned integer; the codes of R23 and R31 for kinds and outcomes. -/
  | value (v : Nat)
  /-- A byte sequence, index 0 first. -/
  | bytes (l : List Byte)
  /-- The value of `parse`. -/
  | parsed (r : ParseResult)
deriving DecidableEq, Repr

/-- Why a step stops with a fault. -/
inductive Fault where
  /-- Raised by a host access (`read`, `write`, `tx`) to an index that its buffer does not have (R50).
  SAFE: the machine stops. -/
  | noSuchByte (i : Nat)
deriving DecidableEq, Repr

/-- Why a step is refused: "not admitted" (R12, R197). Each is SAFE: the machine stops. -/
inductive Refusal where
  /-- Raised by `exec` for an instruction that has no meaning yet. SAFE. -/
  | notModelled (mnemonic : String)
  /-- Raised by `perform` for a reserved command word (R87, R197 (c)). SAFE. -/
  | reservedCommand (w : CommandWord)
  /-- Raised by `perform` for a byte sequence that is no frame of the opcode table (R90). SAFE. -/
  | notAFrame (e : DecodeError)
  /-- Raised by `RSP.PARSE` while `REQ_KIND` = `None` (R155, R197 (a)). SAFE. -/
  | parseWithoutRequest
  /-- Raised by `RSP.PARSE`, `HOST.RX`, a write of `RX_LEN` and a reply frame with a count above `RX_CAP`
  (R155, R181, R197 (b)). SAFE. -/
  | countAboveRxCap
  /-- Raised by a host read of `MEAS[k]` while `MEAS_VALID` = 0 (R183, R197 (d)). SAFE. -/
  | measAbsent
  /-- Raised by a host read of `DISC_VAL` outside its condition (R185, R197 (d)). SAFE. -/
  | discValNotValid
  /-- Raised by a host read of `ASG_VAL` outside its condition (R185, R197 (d)). SAFE. -/
  | asgValNotValid
  /-- Raised by a host write to anything but `RXBUF` and `RX_LEN` (R185, R197 (f)). SAFE. -/
  | hostWriteForbidden
deriving DecidableEq, Repr

/-- The machine's state as the spec has it: the fourteen items of R20 and nothing else. The parameters, the next
operation and its operand, and the bytes that arrive are no fields of it but arguments of its step (R37):
`Machine.blockStep`. -/
structure Block where
  /-- `ADDR` (R21); `0x00` means unknown. -/
  addr : Byte
  /-- `CRC` (R22). -/
  crc : Half
  /-- `REQ_KIND` (R23). -/
  reqKind : Option Kind
  /-- `REQ_ARG` (R24). -/
  reqArg : Byte
  /-- `TXBUF[0..7]` (R25). -/
  txbuf : Memory
  /-- `TX_LEN` (R25), 4 bits: 0 or 8. -/
  txLen : BitVec 4
  /-- `RXBUF[0..RX_CAP-1]` (R26). -/
  rxbuf : Memory
  /-- `RX_LEN` (R26): a count from 0 to `RX_CAP`. -/
  rxLen : Nat
  /-- `MEAS[0..7]` (R27). -/
  meas : MeasSet
  /-- `MEAS_VALID` (R28). -/
  measValid : Bool
  /-- `OUTCOME` (R31). -/
  outcome : OutcomeCode
  /-- `OUT_KIND` (R32). -/
  outKind : Option Kind
  /-- `DISC_VAL` (R29): a natural number below 2^2040, as R29 allows (log 10). After the value's
  validity ends (R229, U9) it keeps its bits and cannot be read (log 7). -/
  discVal : Nat
  /-- `ASG_VAL` (R30). -/
  asgVal : Byte
deriving DecidableEq, Repr

/-- What the step of Host/Core.lean carries, since it takes one argument: the block, and beside it what R37 makes
arguments of the block's step (log 1, log 2) and the model's own records. -/
structure State extends Block where
  /-- MODEL'S OWN (DESIGN CHOICE, log 1): the parameters the block was built with (R7, R37). No step changes it. -/
  params : Params
  /-- MODEL'S OWN (DESIGN CHOICE, log 2): what the outside will do next, the next act first (R34, R37). -/
  inbox : List HostAct
  /-- MODEL'S OWN (DESIGN CHOICE, log 6): what the last access or pure function gave back. -/
  answer : Answer
  /-- MODEL'S OWN (DESIGN CHOICE, log 3): how many resets have happened since power-on; the free values of what a reset leaves
  unspecified are taken at it. -/
  epoch : Nat
deriving DecidableEq, Repr

/-- What `MEAS[0..7]` hold after the reset number `epoch`: free values (R28, U7). -/
def freeMeasSet (epoch : Nat) : MeasSet where
  fuelLevel := Config.freeMeas epoch 0
  waterLevel := Config.freeMeas epoch 1
  fuelAvgTemp := Config.freeMeas epoch 2
  pointTempA := Config.freeMeas epoch 3
  pointTempB := Config.freeMeas epoch 4
  pointTempC := Config.freeMeas epoch 5
  pointTempD := Config.freeMeas epoch 6
  pointTempE := Config.freeMeas epoch 7

/-- The machine after power-on (R38). What R38 calls unspecified is a free value (DESIGN CHOICE, log 3, log 4). -/
def State.reset : State where
  addr := 0x00
  crc := 0xFFFF
  reqKind := none
  reqArg := Config.freeReqArg 0
  txbuf := []
  txLen := 0
  rxbuf := []
  rxLen := 0
  meas := freeMeasSet 0
  measValid := false
  outcome := .none
  outKind := none
  discVal := (Config.freeDiscVal 0).toNat
  asgVal := Config.freeAsgVal 0
  params := defaultParams
  inbox := []
  answer := .none
  epoch := 0

end Sys2Proof.Machine
end

