-- ==== Sys2Proof/Machine/Ops.lean ====
section
/-! DEFINITION. The named operations over buffers and registers. Each register is written by one operation
here, and the meanings are compositions of them. -/

namespace Sys2Proof.Machine

/-! ### Buffers (R11, R50) -/

/-- Indexes strictly rising: the canonical form. An unlisted byte holds no value, so no entry can equal it. -/
def Memory.wf : Memory → Bool
  | [] => true
  | [_] => true
  | x :: y :: m => decide (x.1 < y.1) && Memory.wf (y :: m)

/-- Every index is below `n`, the size of the buffer. -/
def Memory.below (n : Nat) (m : Memory) : Bool := m.all fun x => decide (x.1 < n)

/-- The byte at index `i`, when one has been written. -/
def Memory.read : Memory → Nat → Option Byte
  | [], _ => none
  | x :: m, i => if x.1 = i then some x.2 else Memory.read m i

/-- `MemWrite(space, i, 1, b)` (R11), keeping the canonical form. -/
def Memory.write : Memory → Nat → Byte → Memory
  | [], i, b => [(i, b)]
  | x :: m, i, b =>
    if i < x.1 then (i, b) :: x :: m
    else if i = x.1 then (i, b) :: m
    else x :: Memory.write m i b

/-- Consecutive bytes from index `i`, one at a time (R53). -/
def Memory.store : Memory → Nat → List Byte → Memory
  | m, _, [] => m
  | m, i, b :: bs => Memory.store (Memory.write m i b) (i + 1) bs

/-- `TXBUF[i]`: a byte that nothing has written since the last reset is a free value (R38, U8, U10). -/
def State.readTx (s : State) (i : Nat) : Byte :=
  (Memory.read s.txbuf i).getD (Config.freeTxByte s.epoch i)

/-- `RXBUF[i]`: a byte that nothing has written since the last reset is a free value (R38, U8, U11). -/
def State.readRx (s : State) (i : Nat) : Byte :=
  (Memory.read s.rxbuf i).getD (Config.freeRxByte s.epoch i)

/-- `TXBUF[0..n-1]`. -/
def State.txBytes (s : State) (n : Nat) : List Byte := (List.range n).map s.readTx

/-- `RXBUF[0..RX_LEN-1]` (R26): the document's `rawBytes`. -/
def State.rxBytes (s : State) : List Byte := (List.range s.rxLen).map s.readRx

/-! ### Register writes -/

/-- `ADDR <- v`. -/
def State.setAddr (s : State) (v : Byte) : State := { s with addr := v }

/-- `CRC <- v`. -/
def State.setCrc (s : State) (v : Half) : State := { s with crc := v }

/-- `REQ_KIND <- k`. -/
def State.setReqKind (s : State) (k : Option Kind) : State := { s with reqKind := k }

/-- `REQ_ARG <- v`. -/
def State.setReqArg (s : State) (v : Byte) : State := { s with reqArg := v }

/-- `TXBUF[0..7] <- B; TX_LEN <- 8` (R25, R125 to R127). -/
def State.setTx (s : State) (B : List Byte) : State :=
  { s with txbuf := Memory.store s.txbuf 0 B, txLen := 8 }

/-- `TX_LEN <- 0`: there is no frame to send; `TXBUF` keeps its bytes (R127). -/
def State.clearTx (s : State) : State := { s with txLen := 0 }

/-- `RXBUF[i] <- b_i; RX_LEN <- n` (R181). -/
def State.setRx (s : State) (B : List Byte) : State :=
  { s with rxbuf := Memory.store s.rxbuf 0 B, rxLen := B.length }

/-- `RXBUF[i] <- b`. -/
def State.setRxByte (s : State) (i : Nat) (b : Byte) : State :=
  { s with rxbuf := Memory.write s.rxbuf i b }

/-- `RX_LEN <- n`. -/
def State.setRxLen (s : State) (n : Nat) : State := { s with rxLen := n }

/-- `MEAS[k] <- F[k]` for k = 0..7 and `MEAS_VALID <- 1`, in one step (R156). -/
def State.setMeas (s : State) (m : MeasSet) : State := { s with meas := m, measValid := true }

/-- `DISC_VAL <- v`. -/
def State.setDiscVal (s : State) (v : Nat) : State := { s with discVal := v }

/-- `ASG_VAL <- v`. -/
def State.setAsgVal (s : State) (v : Byte) : State := { s with asgVal := v }

/-- The answer to the last access (DESIGN CHOICE, log 6). -/
def State.setAnswer (s : State) (a : Answer) : State := { s with answer := a }

/-- The acts still to come (DESIGN CHOICE, log 2). -/
def State.setInbox (s : State) (l : List HostAct) : State := { s with inbox := l }

/-- The effect of power-on and of `RESET` (R38, R180): the eight items with a reset value take it; the data
items are unspecified from now on, so each becomes a free value of the new epoch, and the buffers list nothing.
The build's parameters, the acts still to come and the last answer are not the block's and stay (DESIGN CHOICE,
log 12). -/
def State.resetBlock (s : State) : State :=
  { s with
    addr := 0x00
    measValid := false
    crc := crcInitValue
    reqKind := none
    txLen := 0
    rxLen := 0
    outcome := .none
    outKind := none
    meas := freeMeasSet (s.epoch + 1)
    reqArg := Config.freeReqArg (s.epoch + 1)
    txbuf := []
    rxbuf := []
    discVal := (Config.freeDiscVal (s.epoch + 1)).toNat
    asgVal := Config.freeAsgVal (s.epoch + 1)
    epoch := s.epoch + 1 }

/-! ### Measurements (R27) -/

/-- `MEAS[k]` (R27). -/
def MeasSet.get (m : MeasSet) (k : Fin 8) : Word :=
  match k with
  | 0 => m.fuelLevel
  | 1 => m.waterLevel
  | 2 => m.fuelAvgTemp
  | 3 => m.pointTempA
  | 4 => m.pointTempB
  | 5 => m.pointTempC
  | 6 => m.pointTempD
  | 7 => m.pointTempE

end Sys2Proof.Machine
end

