-- ==== Sys2Proof/Machine/Flags.lean ====
section
/-! DEFINITION. The only status the block has: `OUTCOME` and `OUT_KIND` (10_state.md R31, R32). There are no
condition codes, no traps and no exception entry (R12, R198, R199): writing an outcome saves nothing and
transfers control nowhere. -/

namespace Sys2Proof.Machine

/-- `OUTCOME <- o`, `OUT_KIND` unchanged: a new exchange has begun (R125 to R127). -/
def State.setOutcome (s : State) (o : OutcomeCode) : State := { s with outcome := o }

/-- What an outcome writes (R190, R199): the code, and the request kind it belongs to. -/
def State.recordOutcome (s : State) (o : OutcomeCode) (k : Kind) : State :=
  { s with outcome := o, outKind := some k }

/-- The numeric code of `OUTCOME` (R31). -/
def outcomeNumber : OutcomeCode → Nat
  | .none => 0
  | .valid => 1
  | .checksumMismatch => 2
  | .malformed => 3
  | .unexpected => 4
  | .noAddressAssigned => 5

/-- The numeric code of `REQ_KIND` and `OUT_KIND` (R23, R32). -/
def kindNumber : Option Kind → Nat
  | none => 0
  | some .discover => 1
  | some .assign => 2
  | some .read => 3

/-- `code of o` (R155). -/
def resultCode : ParseResult → OutcomeCode
  | .valid _ => .valid
  | .checksumMismatch => .checksumMismatch
  | .malformed => .malformed
  | .unexpected => .unexpected

end Sys2Proof.Machine
end

