-- ==== Sys2Proof/Machine/Crc.lean ====
section
/-! DEFINITION. The CRC unit's operations (40_crc.md R105, R106). -/

namespace Sys2Proof.Machine

/-- `CRC.INIT` (R105). -/
def execCrcInit (s : State) : Host.Outcome State Fault Refusal := .next (s.setCrc crcInitValue)

/-- `CRC.UPD b` (R106): it continues from whatever value `CRC` holds. -/
def execCrcUpd (b : Byte) (s : State) : Host.Outcome State Fault Refusal := .next (s.setCrc (crcStep s.crc b))

end Sys2Proof.Machine
end

