-- ==== Sys2Proof/Machine/Framer.lean ====
section
/-! DEFINITION. The request framer's operations (41_framer.md R125 to R127). None sends anything (R184). -/

namespace Sys2Proof.Machine

/-- What the three `REQ.*` operations do when they build a frame: the frame stands in `TXBUF`, the request is
outstanding (replacing an earlier one, R23) and has no result yet. -/
def State.beginRequest (s : State) (k : Kind) (B : List Byte) : State :=
  ((s.setTx B).setReqKind (some k)).setOutcome .none

/-- `REQ.DISC` (R125). -/
def execReqDisc (s : State) : Host.Outcome State Fault Refusal := .next (s.beginRequest .discover buildDiscover)

/-- `REQ.ASSIGN n` (R126): `ADDR` is not changed now. -/
def execReqAssign (n : Byte) (s : State) : Host.Outcome State Fault Refusal :=
  .next ((s.beginRequest .assign (buildAssign n)).setReqArg n)

/-- `REQ.READ` (R127): with `ADDR` unknown it fails with `NoAddressAssigned`, cancels an outstanding request and
leaves the host nothing to send. -/
def execReqRead (s : State) : Host.Outcome State Fault Refusal :=
  if s.addr = broadcast then .next (((s.recordOutcome .noAddressAssigned .read).clearTx).setReqKind none)
  else .next (s.beginRequest .read (buildRead s.addr))

end Sys2Proof.Machine
end

