-- ==== Sys2Proof/Machine/Access.lean ====
section
/-! DEFINITION. The host's accesses (43_system.md R181 to R185), which happen only between operations (R62). No
read changes an item of R20, and no write starts anything (R57). What each access does at an index its buffer has not,
and with a count above `RX_CAP` in a separate write, is log 9. -/

namespace Sys2Proof.Machine

/-- `HOST.RX [b0, .., b(n-1)]` (R181). -/
def hostRx (B : List Byte) (s : State) : Host.Outcome State Fault Refusal :=
  if B.length ≤ s.params.rxCap then .next (s.setRx B) else .refused .countAboveRxCap

/-- `HOST.TX` (R88, R184): the host is given `TXBUF[0..TX_LEN-1]`; when `TX_LEN` = 0 that is nothing. -/
def hostTx (s : State) : Host.Outcome State Fault Refusal :=
  if s.txLen.toNat ≤ txCap then .next (s.setAnswer (.bytes (s.txBytes s.txLen.toNat)))
  else .fault (.noSuchByte txCap)

/-- A register's content handed to the host. -/
def giveValue (v : Nat) (s : State) : Host.Outcome State Fault Refusal := .next (s.setAnswer (.value v))

/-- `HOST.RD r` (R182, R183, R185): a read of `MEAS[k]`, `DISC_VAL` or `ASG_VAL` outside its condition is not
admitted (R197 (d)). -/
def hostRead (r : HostReg) (s : State) : Host.Outcome State Fault Refusal :=
  match r with
  | .addr => giveValue s.addr.toNat s
  | .crc => giveValue s.crc.toNat s
  | .reqKind => giveValue (kindNumber s.reqKind) s
  | .reqArg => giveValue s.reqArg.toNat s
  | .txbuf i => if i < txCap then giveValue (s.readTx i).toNat s else .fault (.noSuchByte i)
  | .txLen => giveValue s.txLen.toNat s
  | .rxbuf i => if i < s.params.rxCap then giveValue (s.readRx i).toNat s else .fault (.noSuchByte i)
  | .rxLen => giveValue s.rxLen s
  | .meas k => if s.measValid then giveValue (s.meas.get k).toNat s else .refused .measAbsent
  | .measValid => giveValue s.measValid.toNat s
  | .outcome => giveValue (outcomeNumber s.outcome) s
  | .outKind => giveValue (kindNumber s.outKind) s
  | .discVal =>
    if s.outcome = .valid ∧ s.outKind = some .discover then giveValue s.discVal s else .refused .discValNotValid
  | .asgVal =>
    if s.outcome = .valid ∧ s.outKind = some .assign then giveValue s.asgVal.toNat s
    else .refused .asgValNotValid

/-- A write of the host: "The host can write nothing but `RXBUF` and `RX_LEN`" (R185, R197 (f)). -/
def hostWrite (r : HostReg) (v : Nat) (s : State) : Host.Outcome State Fault Refusal :=
  match r with
  | .rxbuf i => if i < s.params.rxCap then .next (s.setRxByte i (BitVec.ofNat 8 v)) else .fault (.noSuchByte i)
  | .rxLen => if v ≤ s.params.rxCap then .next (s.setRxLen v) else .refused .countAboveRxCap
  | .addr => .refused .hostWriteForbidden
  | .crc => .refused .hostWriteForbidden
  | .reqKind => .refused .hostWriteForbidden
  | .reqArg => .refused .hostWriteForbidden
  | .txbuf _ => .refused .hostWriteForbidden
  | .txLen => .refused .hostWriteForbidden
  | .meas _ => .refused .hostWriteForbidden
  | .measValid => .refused .hostWriteForbidden
  | .outcome => .refused .hostWriteForbidden
  | .outKind => .refused .hostWriteForbidden
  | .discVal => .refused .hostWriteForbidden
  | .asgVal => .refused .hostWriteForbidden

end Sys2Proof.Machine
end

