-- ==== Sys2Proof/Machine/Parser.lean ====
section
/-! DEFINITION. The response parser: the pure function `parse` with its checks in the order of
42_parser.md R154, the operation `RSP.PARSE` (R155) and what a `Valid` outcome commits (R156, R157). -/

namespace Sys2Proof.Machine

/-- The shape of a reply (R14, R142). -/
inductive Shape where
  | addressed
  | broadcast
deriving DecidableEq, Repr

/-- The minimum length of a reply (R141, D15). -/
def minLength : Kind → Nat
  | .read => 5
  | .discover => 5
  | .assign => 8

/-- The shape that the first byte shows (R142). `A` = `0x00` is no unicast address, so it never matches. -/
def shapeOf (A : Byte) (B : List Byte) : Option Shape :=
  if A ≠ broadcast ∧ byteAt B 0 = A then some .addressed
  else if byteAt B 0 = broadcast then some .broadcast
  else none

/-- The shape that a request kind expects (R142). -/
def expectedShape : Kind → Shape
  | .read => .addressed
  | .discover => .broadcast
  | .assign => .broadcast

/-- The byte count `L` of a read or discovery reply (R144). -/
def countOf (B : List Byte) : Nat := (byteAt B 2).toNat

/-- `check_len` (R144) passes: the buffer holds at least 3 + L + 2 bytes. Not computed in 8 bits (R158). -/
def countFits (B : List Byte) : Bool := decide (3 + countOf B + 2 ≤ B.length)

/-- `check_trail` (R146) passes for a frame of length `e`. -/
def trailFits (strict : Bool) (B : List Byte) (e : Nat) : Bool := !strict || B.length == e

/-- `check_crc` (R145) passes with `p` checksummed bytes. -/
def checksumFits (B : List Byte) (p : Nat) : Bool :=
  crc16 (B.take p) == le16 (byteAt B p) (byteAt B (p + 1))

/-- Float `k` of a read reply (R147, R149). -/
def floatAt (p : FloatPerm) (B : List Byte) (k : Nat) : Word :=
  floatBits p (byteAt B (3 + 4 * k)) (byteAt B (4 + 4 * k)) (byteAt B (5 + 4 * k)) (byteAt B (6 + 4 * k))

/-- The eight floats of a read reply (R147). -/
def floatsOf (p : FloatPerm) (B : List Byte) : MeasSet where
  fuelLevel := floatAt p B 0
  waterLevel := floatAt p B 1
  fuelAvgTemp := floatAt p B 2
  pointTempA := floatAt p B 3
  pointTempB := floatAt p B 4
  pointTempC := floatAt p B 5
  pointTempD := floatAt p B 6
  pointTempE := floatAt p B 7

/-- `parse_read` (R147, R148). -/
def parseRead (p : Params) (B : List Byte) : ParseResult :=
  if byteAt B 1 ≠ fcRead then .malformed
  else if ¬ countFits B then .malformed
  else if countOf B ≠ readByteCount then .malformed
  else if ¬ trailFits p.strictTrail B 37 then .malformed
  else if ¬ checksumFits B 35 then .checksumMismatch
  else .valid (.read (floatsOf p.floatPerm B))

/-- `parse_discover` (R150). -/
def parseDiscover (p : Params) (B : List Byte) : ParseResult :=
  if byteAt B 1 ≠ fcRead then .malformed
  else if ¬ countFits B then .malformed
  else if ¬ trailFits p.strictTrail B (3 + countOf B + 2) then .malformed
  else if ¬ checksumFits B (3 + countOf B) then .checksumMismatch
  else .valid (.discover (discValue B (countOf B)))

/-- `parse_assign` (R152, R153). -/
def parseAssign (p : Params) (B : List Byte) : ParseResult :=
  if byteAt B 1 ≠ fcWrite then .malformed
  else if be16 (byteAt B 2) (byteAt B 3) ≠ regAddr then .malformed
  else if ¬ trailFits p.strictTrail B 8 then .malformed
  else if ¬ checksumFits B 6 then .checksumMismatch
  else .valid (.assign (byteAt B 5))

/-- `parse(kind, A, B)` (R140): `check_min` (R141), then `classify` (R142), then the shape's own checks. -/
def parse (p : Params) (k : Kind) (A : Byte) (B : List Byte) : ParseResult :=
  if B.length < minLength k then .malformed
  else if shapeOf A B ≠ some (expectedShape k) then .unexpected
  else match k with
    | .read => parseRead p B
    | .discover => parseDiscover p B
    | .assign => parseAssign p B

/-- `commit` (R156): all writes of one case in one step. `ADDR` receives the low 8 bits of a discovered value
and, for an assignment, the requested address `REQ_ARG`. -/
def State.commit (s : State) : Payload → State
  | .discover v => (s.setDiscVal v).setAddr (BitVec.ofNat 8 v)
  | .assign v => (s.setAsgVal v).setAddr s.reqArg
  | .read m => s.setMeas m

/-- The writes of `RSP.PARSE` for a request of kind `k` and a result (R155): status, then the commit of a
`Valid` result, then `REQ_KIND <- None`. A failure writes nothing else (R157). -/
def State.finishParse (s : State) (k : Kind) (r : ParseResult) : State :=
  match r with
  | .valid p => ((s.recordOutcome .valid k).commit p).setReqKind none
  | .checksumMismatch => (s.recordOutcome .checksumMismatch k).setReqKind none
  | .malformed => (s.recordOutcome .malformed k).setReqKind none
  | .unexpected => (s.recordOutcome .unexpected k).setReqKind none

/-- `RSP.PARSE` (R155). `ADDR` is read before the commit. -/
def execRspParse (s : State) : Host.Outcome State Fault Refusal :=
  match s.reqKind with
  | none => .refused .parseWithoutRequest
  | some k =>
    if s.rxLen ≤ s.params.rxCap then .next (s.finishParse k (parse s.params k s.addr s.rxBytes))
    else .refused .countAboveRxCap

end Sys2Proof.Machine
end

