-- ==== Sys2Proof/Machine/Frames.lean ====
section
/-! DEFINITION. The frame rows of the opcode table. R90: a frame row's rule is "the pure function that builds or
parses the frame". A request row gives back the bytes of its builder and touches nothing of the block (R124). A
reply row is the arrival of that reply: the host stores its bytes (R181, R204 step 4), and the value of `parse` on
them for the kind that expects the row (R147, R150, R152) is given back; nothing is committed before `RSP.PARSE`
(DESIGN CHOICE, log 5). -/

namespace Sys2Proof.Machine

/-- A frame that the framer's builder makes is given back; nothing of the block is touched (R124). -/
def giveBuilt (F : List Byte) (s : State) : Host.Outcome State Fault Refusal := .next (s.setAnswer (.bytes F))

/-- A reply of kind `k` arrives. -/
def receiveReply (k : Kind) (B : List Byte) (s : State) : Host.Outcome State Fault Refusal :=
  match hostRx B s with
  | .next t => .next (t.setAnswer (.parsed (parse s.params k s.addr B)))
  | .fault f => .fault f
  | .refused r => .refused r

/-- `FRAME.REQ.DISC`: `build_discover()` (R121). -/
def execFrameReqDisc (s : State) : Host.Outcome State Fault Refusal :=
  giveBuilt buildDiscover s

/-- `FRAME.REQ.ASSIGN`: `build_assign(n)` (R122). The function computes the two checksum bytes from the first six;
those of the presented bytes are not its operands (DESIGN CHOICE, log 5). -/
def execFrameReqAssign (n _c _d : Byte) (s : State) : Host.Outcome State Fault Refusal :=
  giveBuilt (buildAssign n) s

/-- `FRAME.REQ.READ`: `build_read(a)` (R123), which has a value at a = `0x00` too. The
checksum bytes are as in `FRAME.REQ.ASSIGN`. -/
def execFrameReqRead (a _c _d : Byte) (s : State) : Host.Outcome State Fault Refusal :=
  giveBuilt (buildRead a) s

/-- `FRAME.RSP.READ` (R75, R147). -/
def execFrameRspRead (a : Byte) (data : List Byte) (c d : Byte) (s : State) : Host.Outcome State Fault Refusal :=
  receiveReply .read (readReply a data c d) s

/-- `FRAME.RSP.DISC` (R76, R150). -/
def execFrameRspDisc (data : List Byte) (c d : Byte) (s : State) : Host.Outcome State Fault Refusal :=
  receiveReply .discover (discoverReply data c d) s

/-- `FRAME.RSP.ASSIGN` (R77, R152). -/
def execFrameRspAssign (x v c d : Byte) (s : State) : Host.Outcome State Fault Refusal :=
  receiveReply .assign (assignReply x v c d) s

end Sys2Proof.Machine
end

