-- ==== Sys2Proof/Machine/System.lean ====
section
/-! DEFINITION. The block's only system operation (43_system.md R180, R189). -/

namespace Sys2Proof.Machine

/-- `RESET` (R180): the same effect as power-on. -/
def execReset (s : State) : Host.Outcome State Fault Refusal := .next s.resetBlock

end Sys2Proof.Machine
end

