-- ==== Sys2Proof/Machine/Dispatch.lean ====
section
/-! DEFINITION. The meaning of every row of the opcode table, one arm per constructor. -/

namespace Sys2Proof.Machine

/-- What an instruction does. -/
def exec (i : Instr) (s : State) : Host.Outcome State Fault Refusal :=
  match i with
  | .crcInit => Sys2Proof.Machine.execCrcInit s
  | .crcUpd b => Sys2Proof.Machine.execCrcUpd b s
  | .reqDisc => Sys2Proof.Machine.execReqDisc s
  | .reqAssign n => Sys2Proof.Machine.execReqAssign n s
  | .reqRead => Sys2Proof.Machine.execReqRead s
  | .rspParse => Sys2Proof.Machine.execRspParse s
  | .reset => Sys2Proof.Machine.execReset s
  | .frameReqDisc => Sys2Proof.Machine.execFrameReqDisc s
  | .frameReqAssign n c d => Sys2Proof.Machine.execFrameReqAssign n c d s
  | .frameReqRead a c d => Sys2Proof.Machine.execFrameReqRead a c d s
  | .frameRspRead a data c d => Sys2Proof.Machine.execFrameRspRead a data c d s
  | .frameRspDisc data c d => Sys2Proof.Machine.execFrameRspDisc data c d s
  | .frameRspAssign x v c d => Sys2Proof.Machine.execFrameRspAssign x v c d s

end Sys2Proof.Machine
end

