-- ==== Sys2Proof/Machine/Perform.lean ====
section
/-! DEFINITION. One act of the outside on the block (R3: one indivisible step). -/

namespace Sys2Proof.Machine

/-- The refusal of a code that selects no row (R87, R90, R197 (c)). -/
def refusalOf : DecodeError → Refusal
  | .reservedCommand w => .reservedCommand w
  | .noFrameRow => .notAFrame .noFrameRow
  | .frameLength => .notAFrame .frameLength

/-- A presented code: the instruction that the decoder reads from it, or a refusal. -/
def issue (c : Code) (s : State) : Host.Outcome State Fault Refusal :=
  match decode c with
  | .ok i => exec i s
  | .error e => .refused (refusalOf e)

/-- What one act of the outside does. -/
def perform (a : HostAct) (s : State) : Host.Outcome State Fault Refusal :=
  match a with
  | .powerOn => .next s.resetBlock
  | .issue c => issue c s
  | .rx B => hostRx B s
  | .tx => hostTx s
  | .read r => hostRead r s
  | .write r v => hostWrite r v s

end Sys2Proof.Machine
end

