-- ==== Sys2Proof/Machine/Step.lean ====
section
/-! DEFINITION. One step. The block fetches no instruction (R34): the step takes the next act of the outside,
which R37 makes an argument of the block's step (`blockStep`), from `inbox` (DESIGN CHOICE, log 2) and performs
it. -/

namespace Sys2Proof.Machine

/-- One step: the next act is taken and performed; with none, the block waits (R220) and nothing changes. -/
def step (s : State) : Host.Outcome State Fault Refusal :=
  match s.inbox with
  | [] => .next s
  | a :: rest => perform a (s.setInbox rest)

/-- `s` with the table's bits `w` presented as the next act, before the acts that stand there. -/
def State.withFetchWord (s : State) (nbits w : Nat) : State :=
  s.setInbox (.issue (codeOfTableWord nbits w) :: s.inbox)

end Sys2Proof.Machine
end

