-- ==== Sys2Proof/Machine/BlockStep.lean ====
section
/-! DEFINITION. The machine of 10_state.md R20 and R37: its state is `Block`, and the parameters and the next act
of the outside are arguments of its step. `step` is this step with the arguments that `State` carries. -/

namespace Sys2Proof.Machine

/-- What an outcome says of the block alone. -/
def blockOutcome (o : Host.Outcome State Fault Refusal) : Host.Outcome Block Fault Refusal :=
  match o with
  | .next t => .next t.toBlock
  | .fault f => .fault f
  | .refused r => .refused r

/-- A block together with the arguments of its step, with nothing more to come and no answer given yet. -/
def Block.withArguments (b : Block) (p : Params) (epoch : Nat) : State where
  toBlock := b
  params := p
  inbox := []
  answer := .none
  epoch := epoch

/-- The block's step (R37): the parameters `p`, the number `epoch` at which the free values of unspecified items are
taken (log 3, log 4), and the act `a` that comes next, with its operand or bytes. -/
def blockStep (p : Params) (epoch : Nat) (a : HostAct) (b : Block) : Host.Outcome Block Fault Refusal :=
  blockOutcome (perform a (b.withArguments p epoch))

end Sys2Proof.Machine
end

