-- ==== Sys2Proof/Machine/Exchange.lean ====
section
/-! DEFINITION. The pseudo-operations (30_encoding.md R89): the fixed sequences of operations and host accesses
that the document's public operations are (43_system.md R186 to R188, 40_crc.md R107). -/

namespace Sys2Proof.Machine

/-- One act after another; a stop ends the sequence. -/
def andThen (o : Host.Outcome State Fault Refusal) (f : State → Host.Outcome State Fault Refusal) :
    Host.Outcome State Fault Refusal :=
  match o with
  | .next s => f s
  | .fault r => .fault r
  | .refused r => .refused r

/-- `CRC.UPD b` for each byte, in order. -/
def crcUpdates : List Byte → State → Host.Outcome State Fault Refusal
  | [], s => .next s
  | b :: bs, s => andThen (exec (.crcUpd b) s) (crcUpdates bs)

/-- The block operations of `checksum(bytes)` (R107). -/
def checksumOf (B : List Byte) (s : State) : Host.Outcome State Fault Refusal :=
  andThen (exec .crcInit s) (crcUpdates B)

/-- A call that ends in `s` returns `value s`, what the host reads there: a read changes nothing (R57). -/
def giveBack {β : Type} (value : State → β) (o : Host.Outcome State Fault Refusal) :
    Host.Outcome (β × State) Fault Refusal :=
  match o with
  | .next s => .next (value s, s)
  | .fault r => .fault r
  | .refused r => .refused r

/-- `Result<T, ProtocolError>` as the exchanges return it (R186 to R188): `if OUTCOME = Valid: return Ok(value)`,
`else: return Err(OUTCOME)`. -/
def resultOf {α : Type} (value : State → α) (s : State) : Except OutcomeCode α :=
  if s.outcome = .valid then .ok (value s) else .error s.outcome

/-- `checksum(bytes) -> uint16` (R107): the host reads `CRC` at the end. -/
def checksum (B : List Byte) (s : State) : Host.Outcome (Half × State) Fault Refusal :=
  giveBack (fun t => t.crc) (checksumOf B s)

/-- The rest of an exchange after its request: `HOST.TX`, the Transport (the host's), `HOST.RX` of the bytes
read, `RSP.PARSE` (R204 steps 2 to 5). -/
def finishExchange (reply : List Byte) (s : State) : Host.Outcome State Fault Refusal :=
  andThen (hostTx s) fun t => andThen (hostRx reply t) fun u => exec .rspParse u

/-- `discoverAddress() -> Result<DeviceAddress, ProtocolError>` (R186) when the Transport's read returns `reply`:
`Ok(ADDR)`, which the commit has set, or `Err(OUTCOME)`. -/
def discoverAddress (reply : List Byte) (s : State) :
    Host.Outcome (Except OutcomeCode Byte × State) Fault Refusal :=
  giveBack (resultOf fun t => t.addr) (andThen (exec .reqDisc s) (finishExchange reply))

/-- `assignAddress(n) -> Result<(), ProtocolError>` (R187) when the Transport's read returns `reply`. -/
def assignAddress (n : Byte) (reply : List Byte) (s : State) :
    Host.Outcome (Except OutcomeCode Unit × State) Fault Refusal :=
  giveBack (resultOf fun _ => ()) (andThen (exec (.reqAssign n) s) (finishExchange reply))

/-- `readMeasurements() -> Result<MeasurementSet, ProtocolError>` (R188) when the Transport's read returns `reply`:
with `NoAddressAssigned` no Transport step is made and that is the error; else a copy of `MEAS[0..7]`, or
`Err(OUTCOME)`. -/
def readMeasurements (reply : List Byte) (s : State) :
    Host.Outcome (Except OutcomeCode MeasSet × State) Fault Refusal :=
  giveBack (resultOf fun t => t.meas) (andThen (exec .reqRead s) fun t =>
    if t.outcome = .noAddressAssigned then .next t else finishExchange reply t)

end Sys2Proof.Machine
end

