-- ==== Sys2Proof/Safety.lean ====
section
/-! DEFINITION. What a safe run is: which acts of the outside are admitted (60_exceptions.md R197), and what holds
of every state that a run from reset reaches. -/

namespace Sys2Proof.Machine

/-! ### What is admitted -/

/-- When an instruction is admitted (R197 (a), (b)). -/
def InstrAdmitted (i : Instr) (s : State) : Prop :=
  match i with
  | .crcInit => True
  | .crcUpd _ => True
  | .reqDisc => True
  | .reqAssign _ => True
  | .reqRead => True
  | .rspParse => s.reqKind ≠ none ∧ s.rxLen ≤ s.params.rxCap
  | .reset => True
  | .frameReqDisc => True
  | .frameReqAssign _ _ _ => True
  | .frameReqRead _ _ _ => True
  | .frameRspRead _ data _ _ => data.length + 5 ≤ s.params.rxCap
  | .frameRspDisc data _ _ => data.length + 5 ≤ s.params.rxCap
  | .frameRspAssign _ _ _ _ => 8 ≤ s.params.rxCap

/-- When a host read is admitted (R197 (d)) and names a byte that exists (R50). `TXBUF[i]` and `REQ_ARG` are readable
outside the windows of R229 too (DESIGN CHOICE, log 7). -/
def ReadAdmitted (r : HostReg) (s : State) : Prop :=
  match r with
  | .meas _ => s.measValid = true
  | .discVal => s.outcome = .valid ∧ s.outKind = some .discover
  | .asgVal => s.outcome = .valid ∧ s.outKind = some .assign
  | .txbuf i => i < 8
  | .rxbuf i => i < s.params.rxCap
  | .addr => True
  | .crc => True
  | .reqKind => True
  | .reqArg => True
  | .txLen => True
  | .rxLen => True
  | .measValid => True
  | .outcome => True
  | .outKind => True

/-- When a host write is admitted (R197 (b), (f)) and names a byte that exists (R50). -/
def WriteAdmitted (r : HostReg) (v : Nat) (s : State) : Prop :=
  match r with
  | .rxbuf i => i < s.params.rxCap
  | .rxLen => v ≤ s.params.rxCap
  | .addr => False
  | .crc => False
  | .reqKind => False
  | .reqArg => False
  | .txbuf _ => False
  | .txLen => False
  | .meas _ => False
  | .measValid => False
  | .outcome => False
  | .outKind => False
  | .discVal => False
  | .asgVal => False

/-- When an act of the outside is admitted (R197). -/
def Admitted (a : HostAct) (s : State) : Prop :=
  match a with
  | .powerOn => True
  | .issue c =>
    match decode c with
    | .ok i => InstrAdmitted i s
    | .error _ => False
  | .rx B => B.length ≤ s.params.rxCap
  | .tx => True
  | .read r => ReadAdmitted r s
  | .write r v => WriteAdmitted r v s

/-! ### What holds of every state that a run reaches -/

/-- The buffers are canonical and hold no byte outside themselves (R50). -/
def BuffersOk (s : State) : Prop :=
  Memory.wf s.txbuf = true ∧ Memory.below 8 s.txbuf = true ∧
    Memory.wf s.rxbuf = true ∧ Memory.below s.params.rxCap s.rxbuf = true

/-- The counts and the wide register stay in their ranges (R7, R20, R25, R26, R29). -/
def RangesOk (s : State) : Prop :=
  37 ≤ s.params.rxCap ∧ (s.txLen = 0 ∨ s.txLen = 8) ∧ s.rxLen ≤ s.params.rxCap ∧ s.discVal < 2 ^ discWidth

/-- The frame of an outstanding request of kind `k` (R125 to R127). -/
def requestFrame (k : Kind) (s : State) : List Byte :=
  match k with
  | .discover => buildDiscover
  | .assign => buildAssign s.reqArg
  | .read => buildRead s.addr

/-- While a request is outstanding it has no result yet, its frame stands in `TXBUF`, and a read request has a
unicast target (R25, R31, R34, R127). -/
def RequestOk (s : State) : Prop :=
  ∀ k, s.reqKind = some k →
    s.outcome = .none ∧ s.txLen = 8 ∧ s.txBytes 8 = requestFrame k s ∧ (k = .read → s.addr ≠ broadcast)

/-- What an outcome goes with while it stands in `OUTCOME` (R28 to R32, R127, R156). -/
def OutcomeOk (s : State) : Prop :=
  (s.outcome ≠ .none → s.outKind ≠ none) ∧
  (s.outcome = .noAddressAssigned → s.outKind = some .read ∧ s.addr = broadcast ∧ s.txLen = 0) ∧
  (s.outcome = .valid → s.outKind = some .discover → s.addr = BitVec.ofNat 8 s.discVal) ∧
  (s.outcome = .valid → s.outKind = some .assign → s.addr = s.reqArg) ∧
  (s.outcome = .valid → s.outKind = some .read → s.measValid = true)

/-- The machine's invariant. -/
def Inv (s : State) : Prop := BuffersOk s ∧ RangesOk s ∧ RequestOk s ∧ OutcomeOk s

end Sys2Proof.Machine
end

