-- ==== Sys2Proof/Certificates/Slice0/Obligations.lean ====
section
/-! DEFINITION. The statements for the provers. Each says in the block's own terms what a rule of spec/ says;
`Sys2Proof.Claims` holds the spec's wording of conditions that several statements use. -/

namespace Sys2Proof.Claims

open Sys2Proof.Machine

/-- R87: "operation codes `0x0`, `0x3`, `0x7`, `0x9` to `0xE`, and any word of an operand-less operation whose
`arg` is not `0x00`". -/
def reservedWord (w : CommandWord) : Prop :=
  w.toNat / 256 ∈ [0x0, 0x3, 0x7, 0x9, 0xA, 0xB, 0xC, 0xD, 0xE] ∨
    (w.toNat / 256 ∈ [0x1, 0x4, 0x6, 0x8, 0xF] ∧ w.toNat % 256 ≠ 0)

/-- R154 row 2: "first byte is neither the known unicast address nor `0x00`; or it is the known address and kind
is not `Read`; or it is `0x00` and kind is `Read`". -/
def firstByteWrong (k : Kind) (A : Byte) (B : List Byte) : Prop :=
  (byteAt B 0 ≠ 0x00 ∧ ¬ (A ≠ 0x00 ∧ byteAt B 0 = A)) ∨
    (A ≠ 0x00 ∧ byteAt B 0 = A ∧ k ≠ .read) ∨ (byteAt B 0 = 0x00 ∧ k = .read)

/-- The length of the frame that the reply's own fields describe (R80, R146). -/
def frameEnd (k : Kind) (B : List Byte) : Nat :=
  match k with
  | .read => 37
  | .discover => 3 + (byteAt B 2).toNat + 2
  | .assign => 8

/-- R154 row 3 and R192 (b) to (f): "function byte wrong; or count exceeds the buffer; or (`Read`) count not 32;
or (`Assign`) echo not `0x0020`; or (`STRICT_TRAIL`) extra bytes". -/
def structureWrong (p : Params) (k : Kind) (B : List Byte) : Prop :=
  byteAt B 1 ≠ (if k = .assign then 0x06 else 0x04) ∨
    (k ≠ .assign ∧ B.length < 3 + (byteAt B 2).toNat + 2) ∨
    (k = .read ∧ (byteAt B 2).toNat ≠ 32) ∨
    (k = .assign ∧ ¬ (byteAt B 2 = 0x00 ∧ byteAt B 3 = 0x20)) ∨
    (p.strictTrail = true ∧ B.length ≠ frameEnd k B)

/-- R191: `crc16(B[0..p-1])` differs from `le16(B[p], B[p+1])` at the boundary p of the shape. -/
def checksumWrong (k : Kind) (B : List Byte) : Prop :=
  crc16 (B.take (frameEnd k B - 2)) ≠ le16 (byteAt B (frameEnd k B - 2)) (byteAt B (frameEnd k B - 1))

/-- R141: the minimum length for a kind. -/
def tooShort (k : Kind) (B : List Byte) : Prop := B.length < (if k = .assign then 8 else 5)

/-- R151: the sum over the data bytes of `byte_i << (8*i)`, exactly. -/
def weightedSum (data : List Byte) : Nat :=
  ∑ i ∈ Finset.range data.length, (byteAt data i).toNat * 2 ^ (8 * i)

/-- R149: the wire bytes of a value whose bytes are m3 m2 m1 m0 (m3 most significant), under the default order:
w0 = m2, w1 = m3, w2 = m0, w3 = m1. -/
def wireOf (w : Word) : List Byte :=
  [w.extractLsb' 16 8, w.extractLsb' 24 8, w.extractLsb' 0 8, w.extractLsb' 8 8]

/-- The 32 data bytes of a read reply that carries `m`, under the default order (R75, R149). -/
def wireSet (m : MeasSet) : List Byte :=
  wireOf m.fuelLevel ++ wireOf m.waterLevel ++ wireOf m.fuelAvgTemp ++ wireOf m.pointTempA ++
    wireOf m.pointTempB ++ wireOf m.pointTempC ++ wireOf m.pointTempD ++ wireOf m.pointTempE

/-- R147: `float_bits(B[i], B[i+1], B[i+2], B[i+3])`. -/
def wireFloat (p : Params) (B : List Byte) (i : Nat) : Word :=
  floatBits p.floatPerm (byteAt B i) (byteAt B (i + 1)) (byteAt B (i + 2)) (byteAt B (i + 3))

/-- The number that a host reads for a request kind (R23, R32). -/
def kindCode (k : Option Kind) : Nat :=
  match k with
  | none => 0
  | some .discover => 1
  | some .assign => 2
  | some .read => 3

/-- The number that a host reads for an outcome (R31). -/
def outcomeCode (o : OutcomeCode) : Nat :=
  match o with
  | .none => 0
  | .valid => 1
  | .checksumMismatch => 2
  | .malformed => 3
  | .unexpected => 4
  | .noAddressAssigned => 5

/-- A body followed by its own checksum, low byte first (R70, R120). -/
def closed (body : List Byte) : List Byte :=
  body ++ [(crc16 body).setWidth 8, (crc16 body >>> 8).setWidth 8]

/-- `TXBUF` holds `F` at indexes 0 to 7 and every byte elsewhere as `s` had it. -/
def txHolds (s t : State) (F : List Byte) : Prop :=
  F.length = 8 ∧ (∀ i, i < 8 → t.readTx i = byteAt F i) ∧ ∀ i, 8 ≤ i → t.readTx i = s.readTx i

/-- `RXBUF` holds `B` from index 0 and every byte elsewhere as `s` had it. -/
def rxHolds (s t : State) (B : List Byte) : Prop :=
  (∀ i, i < B.length → t.readRx i = byteAt B i) ∧ ∀ i, B.length ≤ i → t.readRx i = s.readRx i

/-- The three failures of `parse` and the codes that stand for them (R155). -/
def failsWith (r : ParseResult) (o : OutcomeCode) : Prop :=
  (r = .checksumMismatch ∧ o = .checksumMismatch) ∨ (r = .malformed ∧ o = .malformed) ∨
    (r = .unexpected ∧ o = .unexpected)

/-- The operations of the block (R86), as against the frame rows. -/
def isOperation : Instr → Bool
  | .crcInit => true
  | .crcUpd _ => true
  | .reqDisc => true
  | .reqAssign _ => true
  | .reqRead => true
  | .rspParse => true
  | .reset => true
  | .frameReqDisc => false
  | .frameReqAssign _ _ _ => false
  | .frameReqRead _ _ _ => false
  | .frameRspRead _ _ _ _ => false
  | .frameRspDisc _ _ _ => false
  | .frameRspAssign _ _ _ _ => false

/-- The next act of the outside resets the block (R220): power-on, or the operation `RESET`. -/
def nextResets (s : State) : Prop :=
  ∃ rest, s.inbox = .powerOn :: rest ∨ ∃ c, s.inbox = .issue c :: rest ∧ decode c = .ok .reset

/-- The next act of the outside is the operation `RSP.PARSE`. -/
def nextParses (s : State) : Prop :=
  ∃ c rest, s.inbox = .issue c :: rest ∧ decode c = .ok .rspParse

end Sys2Proof.Claims

open Sys2Proof Sys2Proof.Machine Sys2Proof.Claims

/-! ### Encoding and step -/

/-- R86, R90, R72 to R77: one encoded word or frame of each of the thirteen rows decodes to its instruction (the read
reply is that of V3). -/
def Obligations.WrittenOutCodesDecode : Prop :=
  decode (.command 0x100) = .ok .crcInit ∧
  decode (.command 0x231) = .ok (.crcUpd 0x31) ∧
  decode (.command 0x400) = .ok .reqDisc ∧
  decode (.command 0x507) = .ok (.reqAssign 0x07) ∧
  decode (.command 0x600) = .ok .reqRead ∧
  decode (.command 0x800) = .ok .rspParse ∧
  decode (.command 0xF00) = .ok .reset ∧
  decode (.frame .request [0x00, 0x04, 0x00, 0x20, 0x00, 0x01, 0x31, 0xD1]) = .ok .frameReqDisc ∧
  decode (.frame .request [0x00, 0x06, 0x00, 0x20, 0x00, 0x07, 0xC8, 0x13]) = .ok (.frameReqAssign 0x07 0xC8 0x13) ∧
  decode (.frame .request [0x05, 0x04, 0x00, 0x00, 0x00, 0x10, 0xF0, 0x42]) = .ok (.frameReqRead 0x05 0xF0 0x42) ∧
  decode (.frame .reply ([0x05, 0x04, 0x20] ++
      [0xC0, 0x3F, 0x00, 0x00, 0x10, 0x40, 0x00, 0x00, 0x00, 0x00, 0x00, 0x00, 0x70, 0xC0, 0x00, 0x00] ++
      [0x20, 0x41, 0x00, 0x00, 0x30, 0x41, 0x00, 0x00, 0x40, 0x41, 0x00, 0x00, 0x50, 0x41, 0x00, 0x00] ++ [0x00, 0x85])) =
    .ok (.frameRspRead 0x05
      ([0xC0, 0x3F, 0x00, 0x00, 0x10, 0x40, 0x00, 0x00, 0x00, 0x00, 0x00, 0x00, 0x70, 0xC0, 0x00, 0x00] ++
        [0x20, 0x41, 0x00, 0x00, 0x30, 0x41, 0x00, 0x00, 0x40, 0x41, 0x00, 0x00, 0x50, 0x41, 0x00, 0x00]) 0x00 0x85) ∧
  decode (.frame .reply [0x00, 0x04, 0x02, 0x05, 0x01, 0x46, 0x60]) = .ok (.frameRspDisc [0x05, 0x01] 0x46 0x60) ∧
  decode (.frame .reply [0x00, 0x06, 0x00, 0x20, 0x12, 0x07, 0xC4, 0xB3]) =
    .ok (.frameRspAssign 0x12 0x07 0xC4 0xB3)

/-- Decode and encode agree, for every well-formed instruction and every operand. -/
def Obligations.DecodeOfEncodeIsTheInstruction : Prop :=
  ∀ i : Instr, i.wellFormed = true → decode (encode i) = .ok i

/-- What the decoder accepts is the encoding of what it answers: no code decodes to a neighbour's instruction. -/
def Obligations.EncodeOfDecodeIsTheCode : Prop :=
  ∀ (c : Code) (i : Instr), decode c = .ok i → encode i = c

/-- R87: a reserved command word has no meaning; the step refuses it. -/
def Obligations.ReservedCommandWordsAreRefused : Prop :=
  ∀ (s : State) (w : CommandWord) (rest : List HostAct), s.inbox = .issue (.command w) :: rest → reservedWord w →
    step s = .refused (.reservedCommand w)

/-- A step runs the decoded instruction: a presented code that decodes to `i` is taken from the front of `inbox`
and the step is `exec i` of what is left; presenting a table word makes the very next step run it. The inbox is the
model's own (log 2). -/
def Obligations.StepRunsTheDecodedInstruction : Prop :=
  (∀ (s : State) (c : Code) (rest : List HostAct) (i : Instr), s.inbox = .issue c :: rest → decode c = .ok i →
    step s = exec i { s with inbox := rest }) ∧
  ∀ (s : State) (nbits w : Nat) (i : Instr), decodeTableWord nbits w = some i →
    step (s.withFetchWord nbits w) = exec i s

/-- The block waits for the host's next act: with none, a step changes nothing (log 2). -/
def Obligations.BlockWaitsForTheHost : Prop :=
  ∀ s : State, s.inbox = [] → step s = .next s

/-! ### The CRC unit -/

/-- R105: command word `0x100`; `CRC <- 0xFFFF`; every other register is unchanged. -/
def Obligations.CrcInitSetsTheAccumulator : Prop :=
  decode (.command 0x100) = .ok .crcInit ∧ ∀ s : State, exec .crcInit s = .next { s with crc := 0xFFFF }

/-- R106: command word `0x200 | b`; `CRC <- (CRC >> 8) ^ TABLE[(CRC ^ b)[7:0]]`; every other register is
unchanged; it cannot fail. -/
def Obligations.CrcUpdStepsTheAccumulator : Prop :=
  ∀ b : Byte, decode (.command (0x200 ||| b.setWidth 12)) = .ok (.crcUpd b) ∧
    ∀ s : State, exec (.crcUpd b) s =
      .next { s with crc := (s.crc >>> 8) ^^^ tableEntry ((s.crc ^^^ b.setWidth 16).setWidth 8) }

/-- R101: entry i of the hard-coded table is what the generation rule gives. -/
def Obligations.TableHoldsTheGeneratedEntries : Prop :=
  ∀ i : Byte, tableEntry i = generatedEntry i

/-- R104 (a), (b): the checksum of no bytes, and of one more byte. -/
def Obligations.ChecksumOfNoBytesAndOfOneMore : Prop :=
  crc16 [] = 0xFFFF ∧ ∀ (X : List Byte) (b : Byte), crc16 (X ++ [b]) = crcStep (crc16 X) b

/-- R104 (d): the table step is the bit-serial form. -/
def Obligations.CrcStepIsTheBitSerialForm : Prop :=
  ∀ (c : Half) (b : Byte), crcStep c b = polyShifts 8 (c ^^^ b.setWidth 16)

/-- R104 (f): a body followed by its own checksum has the checksum zero. -/
def Obligations.ClosedBodyHasZeroChecksum : Prop :=
  ∀ X : List Byte, crc16 (closed X) = 0x0000

/-- R104 (g): two sequences of equal length that differ in one byte only have different checksums. -/
def Obligations.OneChangedByteChangesTheChecksum : Prop :=
  ∀ (X Y : List Byte) (b c : Byte), b ≠ c → crc16 (X ++ b :: Y) ≠ crc16 (X ++ c :: Y)

/-- R107: `CRC.INIT` and one `CRC.UPD` for each byte leave `crc16` of the bytes in `CRC`, with nothing else changed,
and `checksum(bytes)` returns it. -/
def Obligations.StreamingChecksumIsCrc16 : Prop :=
  ∀ (B : List Byte) (s : State),
    checksumOf B s = .next { s with crc := crc16 B } ∧ checksum B s = .next (crc16 B, { s with crc := crc16 B })

/-- R22, R107, R230: no instruction but `CRC.INIT`, `CRC.UPD` and `RESET` writes `CRC`. -/
def Obligations.OnlyTheCrcUnitAndResetWriteCrc : Prop :=
  ∀ (i : Instr) (s t : State), exec i s = .next t → i ≠ .crcInit → (∀ b, i ≠ .crcUpd b) → i ≠ .reset →
    t.crc = s.crc

/-! ### The framer -/

/-- R121, R122, R123: what the three builders return. -/
def Obligations.BuildersReturnTheRequestFrames : Prop :=
  buildDiscover = [0x00, 0x04, 0x00, 0x20, 0x00, 0x01, 0x31, 0xD1] ∧
  (∀ n : Byte, buildAssign n = closed [0x00, 0x06, 0x00, 0x20, 0x00, n]) ∧
  ∀ a : Byte, buildRead a = closed [a, 0x04, 0x00, 0x00, 0x00, 0x10]

/-- R124: every built frame has 8 bytes and ends in the checksum of its first six. -/
def Obligations.BuiltFramesCarryTheirChecksum : Prop :=
  ∀ F : List Byte, (F = buildDiscover ∨ (∃ n, F = buildAssign n) ∨ ∃ a, F = buildRead a) →
    F.length = 8 ∧ crc16 (F.take 6) = le16 (byteAt F 6) (byteAt F 7)

/-- R125: `REQ.DISC`, command word `0x400`, from any state. -/
def Obligations.ReqDiscBuildsTheDiscoveryRequest : Prop :=
  decode (.command 0x400) = .ok .reqDisc ∧ ∀ s : State, ∃ t : State, exec .reqDisc s = .next t ∧
    txHolds s t [0x00, 0x04, 0x00, 0x20, 0x00, 0x01, 0x31, 0xD1] ∧
    t = { s with txbuf := t.txbuf, txLen := 8, reqKind := some .discover, outcome := .none }

/-- R126: `REQ.ASSIGN n`, command word `0x500 | n`, from any state, for every n. -/
def Obligations.ReqAssignBuildsTheAssignmentRequest : Prop :=
  ∀ n : Byte, decode (.command (0x500 ||| n.setWidth 12)) = .ok (.reqAssign n) ∧ ∀ s : State, ∃ t : State, exec (.reqAssign n) s = .next t ∧
    txHolds s t (closed [0x00, 0x06, 0x00, 0x20, 0x00, n]) ∧
    t = { s with txbuf := t.txbuf, txLen := 8, reqKind := some .assign, reqArg := n, outcome := .none }

/-- R127: `REQ.READ`, command word `0x600`: the read request when an address is known, else
`NoAddressAssigned`, with `TXBUF` keeping its bytes. -/
def Obligations.ReqReadBuildsTheReadRequestOrFails : Prop :=
  decode (.command 0x600) = .ok .reqRead ∧
  (∀ s : State, s.addr ≠ 0x00 → ∃ t : State, exec .reqRead s = .next t ∧
    txHolds s t (closed [s.addr, 0x04, 0x00, 0x00, 0x00, 0x10]) ∧
    t = { s with txbuf := t.txbuf, txLen := 8, reqKind := some .read, outcome := .none }) ∧
  ∀ s : State, s.addr = 0x00 → exec .reqRead s =
    .next { s with outcome := .noAddressAssigned, outKind := some .read, txLen := 0, reqKind := none }

/-! ### The parser -/

/-- R196, R154: the outcome of `parse` is the first one that applies. -/
def Obligations.ParseGivesTheFirstOutcomeThatApplies : Prop :=
  ∀ (p : Params) (k : Kind) (A : Byte) (B : List Byte),
    (tooShort k B → parse p k A B = .malformed) ∧
    (¬ tooShort k B → firstByteWrong k A B → parse p k A B = .unexpected) ∧
    (¬ tooShort k B → ¬ firstByteWrong k A B → structureWrong p k B → parse p k A B = .malformed) ∧
    (¬ tooShort k B → ¬ firstByteWrong k A B → ¬ structureWrong p k B → checksumWrong k B →
      parse p k A B = .checksumMismatch) ∧
    (¬ tooShort k B → ¬ firstByteWrong k A B → ¬ structureWrong p k B → ¬ checksumWrong k B →
      ∃ pl, parse p k A B = .valid pl)

/-- R191: `ChecksumMismatch` has exactly one cause, and no other instruction than `RSP.PARSE` writes it. -/
def Obligations.ChecksumMismatchHasOneCause : Prop :=
  (∀ (s : State) (k : Kind), s.reqKind = some k → s.rxLen ≤ s.params.rxCap →
    ∃ t : State, exec .rspParse s = .next t ∧
      (t.outcome = .checksumMismatch ↔
        ¬ tooShort k s.rxBytes ∧ ¬ firstByteWrong k s.addr s.rxBytes ∧ ¬ structureWrong s.params k s.rxBytes ∧
          checksumWrong k s.rxBytes)) ∧
  ∀ (i : Instr) (s t : State), exec i s = .next t → t.outcome = .checksumMismatch → i ≠ .rspParse →
    s.outcome = .checksumMismatch

/-- R193: the causes of `Unexpected`, all of them in the first byte of a buffer that is long enough, and all in
`RSP.PARSE`. -/
def Obligations.UnexpectedComesFromTheFirstByteOnly : Prop :=
  (∀ (s : State) (k : Kind), s.reqKind = some k → s.rxLen ≤ s.params.rxCap →
    ∃ t : State, exec .rspParse s = .next t ∧
      (t.outcome = .unexpected ↔ ¬ tooShort k s.rxBytes ∧ firstByteWrong k s.addr s.rxBytes)) ∧
  ∀ (i : Instr) (s t : State), exec i s = .next t → t.outcome = .unexpected → i ≠ .rspParse →
    s.outcome = .unexpected

/-- R192: the causes of `Malformed`, in the order of R196, all in `RSP.PARSE`. -/
def Obligations.MalformedHasTheListedCauses : Prop :=
  (∀ (s : State) (k : Kind), s.reqKind = some k → s.rxLen ≤ s.params.rxCap →
    ∃ t : State, exec .rspParse s = .next t ∧
      (t.outcome = .malformed ↔
        tooShort k s.rxBytes ∨ (¬ firstByteWrong k s.addr s.rxBytes ∧ structureWrong s.params k s.rxBytes))) ∧
  ∀ (i : Instr) (s t : State), exec i s = .next t → t.outcome = .malformed → i ≠ .rspParse → s.outcome = .malformed

/-- R194: `NoAddressAssigned` has exactly one cause, `REQ.READ` issued while `ADDR` = `0x00`. -/
def Obligations.NoAddressAssignedHasOneCause : Prop :=
  (∀ s : State, ∃ t : State, exec .reqRead s = .next t ∧ (t.outcome = .noAddressAssigned ↔ s.addr = 0x00)) ∧
  ∀ (i : Instr) (s t : State), exec i s = .next t → t.outcome = .noAddressAssigned → i ≠ .reqRead →
    s.outcome = .noAddressAssigned

/-- R149: byte j of a float, least significant first, is the wire byte `FLOAT_PERM[j]`; under the default order the
value is `{w1, w0, w3, w2}`. -/
def Obligations.FloatBytesFollowTheWireOrder : Prop :=
  (∀ (p : FloatPerm) (w0 w1 w2 w3 : Byte),
    (floatBits p w0 w1 w2 w3).extractLsb' 0 8 = byteAt [w0, w1, w2, w3] p.m0.val ∧
    (floatBits p w0 w1 w2 w3).extractLsb' 8 8 = byteAt [w0, w1, w2, w3] p.m1.val ∧
    (floatBits p w0 w1 w2 w3).extractLsb' 16 8 = byteAt [w0, w1, w2, w3] p.m2.val ∧
    (floatBits p w0 w1 w2 w3).extractLsb' 24 8 = byteAt [w0, w1, w2, w3] p.m3.val) ∧
  ∀ w0 w1 w2 w3 : Byte, floatBits defaultParams.floatPerm w0 w1 w2 w3 = w1 ++ w0 ++ w3 ++ w2

/-- R147, R149: value k of a `Valid` read reply is `float_bits` of the four wire bytes at index 3 + 4k, for every
`FLOAT_PERM`; and under the default order a read reply that carries eight bit patterns gives exactly those, bit for
bit, whatever `STRICT_TRAIL` is. -/
def Obligations.ReadReplyGivesItsValuesBitForBit : Prop :=
  (∀ (p : Params) (A : Byte) (B : List Byte) (pl : Payload), parse p .read A B = .valid pl →
    ∃ m : MeasSet, pl = .read m ∧ ∀ k : Fin 8, m.get k = wireFloat p B (3 + 4 * k.val)) ∧
  ∀ (p : Params) (a : Byte) (m : MeasSet), p.floatPerm = defaultParams.floatPerm → a ≠ 0x00 →
    parse p .read a (closed ([a, 0x04, 0x20] ++ wireSet m)) = .valid (.read m)

/-- R150, R151: a discovery reply with any 0 to 255 data bytes gives their weighted sum, with nothing truncated,
whatever address is known. -/
def Obligations.DiscoveryReplyGivesTheWeightedSum : Prop :=
  ∀ (p : Params) (A : Byte) (data : List Byte), data.length ≤ 255 →
    parse p .discover A (closed ([0x00, 0x04, BitVec.ofNat 8 data.length] ++ data)) =
      .valid (.discover (weightedSum data))

/-- R153: the payload of a `Valid` assignment reply is the byte at index 5; index 4 is covered by the checksum and
may be any byte. -/
def Obligations.AssignmentReplyGivesIndexFive : Prop :=
  (∀ (p : Params) (A : Byte) (B : List Byte) (pl : Payload), parse p .assign A B = .valid pl →
    pl = .assign (byteAt B 5) ∧ crc16 (B.take 6) = le16 (byteAt B 6) (byteAt B 7)) ∧
  ∀ (p : Params) (A x v : Byte),
    parse p .assign A (closed [0x00, 0x06, 0x00, 0x20, x, v]) = .valid (.assign v)

/-- R146, R81: bytes after the frame of a `Valid` reply are ignored when `STRICT_TRAIL` is false and make it
`Malformed` when it is true. -/
def Obligations.TrailingBytesAreIgnoredUnlessStrict : Prop :=
  ∀ (p : Params) (k : Kind) (A : Byte) (B T : List Byte) (pl : Payload), parse p k A B = .valid pl → T ≠ [] →
    (p.strictTrail = false → parse p k A (B ++ T) = .valid pl) ∧
    (p.strictTrail = true → parse p k A (B ++ T) = .malformed)

/-- R154 (consequences), V33: one changed byte in a `Valid` read reply of 37 bytes. -/
def Obligations.OneChangedByteOfAReadReply : Prop :=
  ∀ (p : Params) (A : Byte) (B : List Byte) (pl : Payload) (i : Nat) (x : Byte), p.strictTrail = false →
    parse p .read A B = .valid pl → B.length = 37 → i < 37 → x ≠ byteAt B i →
    parse p .read A (B.set i x) =
      if i = 0 then .unexpected else if i ≤ 2 then .malformed else .checksumMismatch

/-- R154 (consequences), V34: one changed byte in a `Valid` assignment reply of 8 bytes. -/
def Obligations.OneChangedByteOfAnAssignmentReply : Prop :=
  ∀ (p : Params) (A : Byte) (B : List Byte) (pl : Payload) (i : Nat) (x : Byte), p.strictTrail = false →
    parse p .assign A B = .valid pl → B.length = 8 → i < 8 → x ≠ byteAt B i →
    parse p .assign A (B.set i x) =
      if i = 0 then .unexpected else if i ≤ 3 then .malformed else .checksumMismatch

/-- R154 (consequences), V34: one changed byte in a `Valid` discovery reply that is exactly one frame long; a
lowered count is not covered, because its outcome depends on the bytes at the new boundary. -/
def Obligations.OneChangedByteOfADiscoveryReply : Prop :=
  ∀ (p : Params) (A : Byte) (B : List Byte) (pl : Payload) (i : Nat) (x : Byte), p.strictTrail = false →
    parse p .discover A B = .valid pl → B.length = 3 + (byteAt B 2).toNat + 2 → i < B.length → x ≠ byteAt B i →
    (i = 2 → (byteAt B 2).toNat < x.toNat) →
    parse p .discover A (B.set i x) =
      if i = 0 then .unexpected else if i ≤ 2 then .malformed else .checksumMismatch

/-- R155, R156: `RSP.PARSE`, command word `0x800`: what it requires, and what it writes for every outstanding kind
and every result. -/
def Obligations.RspParseWritesTheResult : Prop :=
  decode (.command 0x800) = .ok .rspParse ∧
  (∀ s : State, s.reqKind = none → exec .rspParse s = .refused .parseWithoutRequest) ∧
  (∀ s : State, s.reqKind ≠ none → s.params.rxCap < s.rxLen → exec .rspParse s = .refused .countAboveRxCap) ∧
  ∀ (s : State) (k : Kind), s.reqKind = some k → s.rxLen ≤ s.params.rxCap →
    exec .rspParse s = .next
      (match parse s.params k s.addr s.rxBytes with
        | .valid (.discover v) =>
          { s with outcome := .valid, outKind := some k, reqKind := none, discVal := v, addr := BitVec.ofNat 8 v }
        | .valid (.assign v) =>
          { s with outcome := .valid, outKind := some k, reqKind := none, asgVal := v, addr := s.reqArg }
        | .valid (.read m) =>
          { s with outcome := .valid, outKind := some k, reqKind := none, meas := m, measValid := true }
        | .checksumMismatch => { s with outcome := .checksumMismatch, outKind := some k, reqKind := none }
        | .malformed => { s with outcome := .malformed, outKind := some k, reqKind := none }
        | .unexpected => { s with outcome := .unexpected, outKind := some k, reqKind := none })

/-- R157: a parse that is not `Valid` writes `OUTCOME`, `OUT_KIND` and `REQ_KIND` and nothing else. -/
def Obligations.AFailedParseKeepsTheSession : Prop :=
  ∀ s t : State, exec .rspParse s = .next t → t.outcome ≠ .valid →
    t = { s with outcome := t.outcome, outKind := s.reqKind, reqKind := none } ∧
    (t.outcome = .checksumMismatch ∨ t.outcome = .malformed ∨ t.outcome = .unexpected)

/-- R156, R228: after a `Valid` discovery `ADDR` holds the low 8 bits of `DISC_VAL`, which are the first data byte
when there is one and `0x00` when there is none. -/
def Obligations.DiscoveryStoresTheLowByte : Prop :=
  ∀ s t : State, s.reqKind = some .discover → exec .rspParse s = .next t → t.outcome = .valid →
    t.addr = BitVec.ofNat 8 t.discVal ∧
    t.addr = (if byteAt s.rxBytes 2 = 0x00 then 0x00 else byteAt s.rxBytes 3)

/-- R156, R227: a `Valid` assignment stores the requested address, not the one the reply reports. -/
def Obligations.AssignmentStoresTheRequestedAddress : Prop :=
  ∀ s t : State, s.reqKind = some .assign → exec .rspParse s = .next t → t.outcome = .valid →
    t.addr = s.reqArg ∧ t.asgVal = byteAt s.rxBytes 5

/-! ### Reset -/

/-- R180: `RESET`, command word `0xF00`: the registers it gives a value. Power-on has the same effect. -/
def Obligations.ResetRestoresTheControlRegisters : Prop :=
  decode (.command 0xF00) = .ok .reset ∧
  ∀ s : State, perform .powerOn s = exec .reset s ∧ ∃ t : State, exec .reset s = .next t ∧
    t.addr = 0x00 ∧ t.measValid = false ∧ t.crc = 0xFFFF ∧ t.reqKind = none ∧ t.txLen = 0 ∧ t.rxLen = 0 ∧
    t.outcome = .none ∧ t.outKind = none

/-- R180, R38: after `RESET` the data items hold no value. In the model (log 3, log 4): no byte of either buffer is
listed, and the registers hold the free values of the next epoch. The model's own fields `params`, `inbox` and
`answer` stay. -/
def Obligations.ResetLeavesTheDataUnspecified : Prop :=
  ∀ s t : State, exec .reset s = .next t →
    (∀ i, Memory.read t.txbuf i = none) ∧ (∀ i, Memory.read t.rxbuf i = none) ∧
    t.epoch = s.epoch + 1 ∧ (∀ k : Fin 8, t.meas.get k = Config.freeMeas t.epoch k.val) ∧
    t.reqArg = Config.freeReqArg t.epoch ∧ t.discVal = (Config.freeDiscVal t.epoch).toNat ∧
    t.asgVal = Config.freeAsgVal t.epoch ∧
    t.params = s.params ∧ t.inbox = s.inbox ∧ t.answer = s.answer

/-- R38: the values after power-on that the spec states. -/
def Obligations.PowerOnState : Prop :=
  State.reset.addr = 0x00 ∧ State.reset.measValid = false ∧ State.reset.crc = 0xFFFF ∧
  State.reset.reqKind = none ∧ State.reset.txLen = 0 ∧ State.reset.rxLen = 0 ∧
  State.reset.outcome = .none ∧ State.reset.outKind = none

/-! ### The frame rows -/

/-- R121 to R124: a request row gives the bytes of its builder, with the checksum that the builder computes, and
touches no register of the block. That the bytes are given as the model's `answer` is the model's choice
(log 5). -/
def Obligations.RequestRowsGiveTheBuiltFrame : Prop :=
  (∀ s : State, exec .frameReqDisc s =
    .next { s with answer := .bytes [0x00, 0x04, 0x00, 0x20, 0x00, 0x01, 0x31, 0xD1] }) ∧
  (∀ (n c d : Byte) (s : State), exec (.frameReqAssign n c d) s =
    .next { s with answer := .bytes (closed [0x00, 0x06, 0x00, 0x20, 0x00, n]) }) ∧
  ∀ (a c d : Byte) (s : State), exec (.frameReqRead a c d) s =
    .next { s with answer := .bytes (closed [a, 0x04, 0x00, 0x00, 0x00, 0x10]) }

/-- R75 to R77, R181: a reply row that fits the receive buffer is stored there with its count, its parse by the
kind that expects it is the answer, and nothing else changes. That presenting the row stores the reply, and the
`answer`, are the model's choice (log 5). -/
def Obligations.ReplyRowsStoreTheReply : Prop :=
  ∀ (i : Instr) (k : Kind) (B : List Byte) (s : State),
    ((∃ a data c d, i = .frameRspRead a data c d ∧ k = .read ∧ B = [a, 0x04, 0x20] ++ data ++ [c, d]) ∨
     (∃ data c d, i = .frameRspDisc data c d ∧ k = .discover ∧
        B = [0x00, 0x04, BitVec.ofNat 8 data.length] ++ data ++ [c, d]) ∨
     (∃ x v c d, i = .frameRspAssign x v c d ∧ k = .assign ∧ B = [0x00, 0x06, 0x00, 0x20, x, v, c, d])) →
    B.length ≤ s.params.rxCap →
    ∃ t : State, exec i s = .next t ∧ rxHolds s t B ∧
      t = { s with rxbuf := t.rxbuf, rxLen := B.length, answer := .parsed (parse s.params k s.addr B) }

/-- R147, R149, R155, R156: a read reply from the known address, with its checksum, that arrives and is then parsed
fills the measurement set with its eight values, for every `FLOAT_PERM`; under the default order a reply that carries
`m` leaves exactly `m`. That presenting the reply row stores the reply, as `HOST.RX` (R181) would, is the model's
choice (log 5). -/
def Obligations.ArrivedReadReplyFillsTheMeasurements : Prop :=
  ∀ (s : State) (data : List Byte) (c d : Byte), s.reqKind = some .read → s.addr ≠ 0x00 → 37 ≤ s.params.rxCap →
    data.length = 32 → le16 c d = crc16 ([s.addr, 0x04, 0x20] ++ data) →
    ∃ t : State, andThen (exec (.frameRspRead s.addr data c d) s) (exec .rspParse) = .next t ∧
      t.outcome = .valid ∧ t.outKind = some .read ∧ t.measValid = true ∧ t.addr = s.addr ∧
      (∀ k : Fin 8, t.meas.get k = wireFloat s.params data (4 * k.val)) ∧
      ∀ m : MeasSet, s.params.floatPerm = defaultParams.floatPerm → data = wireSet m → t.meas = m

/-! ### Host accesses -/

/-- R181, R197 (b): `HOST.RX` of at most `RX_CAP` bytes stores them and their count and changes nothing else; a
longer one is not admitted. -/
def Obligations.HostRxStoresTheBytes : Prop :=
  ∀ (B : List Byte) (s : State),
    (B.length ≤ s.params.rxCap → ∃ t : State, perform (.rx B) s = .next t ∧ rxHolds s t B ∧ t.rxBytes = B ∧
      t = { s with rxbuf := t.rxbuf, rxLen := B.length }) ∧
    (s.params.rxCap < B.length → perform (.rx B) s = .refused .countAboveRxCap)

/-- R57, R182, R185: a host read of any register or buffer byte changes no state but the model's own record of the
answer (log 6), and gives the register's content, a kind or an outcome by its code (R23, R31, R32). The reads of
`MEAS`, `DISC_VAL` and `ASG_VAL` are in `PayloadReadsNeedAValidPayload`. That `TXBUF[i]` gives its content whatever
`TX_LEN` is, and `REQ_ARG` whatever `REQ_KIND` is, is the model's choice (log 7: R229 gives them narrower windows), and
so is that a byte index outside its buffer (R50) faults (log 9). -/
def Obligations.HostReadsChangeNothing : Prop :=
  (∀ s t : State, (perform .tx s = .next t ∨ ∃ r, perform (.read r) s = .next t) → t = { s with answer := t.answer }) ∧
  ∀ s : State,
    perform (.read .addr) s = .next { s with answer := .value s.addr.toNat } ∧
    perform (.read .crc) s = .next { s with answer := .value s.crc.toNat } ∧
    perform (.read .reqKind) s = .next { s with answer := .value (kindCode s.reqKind) } ∧
    perform (.read .reqArg) s = .next { s with answer := .value s.reqArg.toNat } ∧
    perform (.read .txLen) s = .next { s with answer := .value s.txLen.toNat } ∧
    perform (.read .rxLen) s = .next { s with answer := .value s.rxLen } ∧
    perform (.read .measValid) s = .next { s with answer := .value (if s.measValid = true then 1 else 0) } ∧
    perform (.read .outcome) s = .next { s with answer := .value (outcomeCode s.outcome) } ∧
    perform (.read .outKind) s = .next { s with answer := .value (kindCode s.outKind) } ∧
    (∀ i, perform (.read (.txbuf i)) s =
      if i < 8 then .next { s with answer := .value (s.readTx i).toNat } else .fault (.noSuchByte i)) ∧
    ∀ i, perform (.read (.rxbuf i)) s =
      if i < s.params.rxCap then .next { s with answer := .value (s.readRx i).toNat } else .fault (.noSuchByte i)

/-- R183, R185, R197 (d): a read of `MEAS[k]`, `DISC_VAL` or `ASG_VAL` gives the register while it is valid and is
not admitted otherwise. -/
def Obligations.PayloadReadsNeedAValidPayload : Prop :=
  ∀ s : State,
    (∀ k, perform (.read (.meas k)) s =
      if s.measValid = true then .next { s with answer := .value (s.meas.get k).toNat } else .refused .measAbsent) ∧
    perform (.read .discVal) s =
      (if s.outcome = .valid ∧ s.outKind = some .discover then .next { s with answer := .value s.discVal }
      else .refused .discValNotValid) ∧
    perform (.read .asgVal) s =
      if s.outcome = .valid ∧ s.outKind = some .assign then .next { s with answer := .value s.asgVal.toNat }
      else .refused .asgValNotValid

/-- R181, R185, R57, R197 (f): a single host write of `RXBUF[i]` stores that byte and nothing else, one of `RX_LEN`
stores the count and nothing else, and any other is refused. That a byte write carries the low 8 bits of its number,
that a count above `RX_CAP` is refused here too and that an index outside the buffer faults is the model's choice
(log 9). -/
def Obligations.HostWritesReachOnlyTheReceiveBuffer : Prop :=
  ∀ (v : Nat) (s : State),
    (∀ r : HostReg, (∀ i, r ≠ .rxbuf i) → r ≠ .rxLen → perform (.write r v) s = .refused .hostWriteForbidden) ∧
    (∀ i, i < s.params.rxCap → ∃ t : State, perform (.write (.rxbuf i) v) s = .next t ∧
      t.readRx i = BitVec.ofNat 8 v ∧ (∀ j, j ≠ i → t.readRx j = s.readRx j) ∧
      t = { s with rxbuf := Memory.write s.rxbuf i (BitVec.ofNat 8 v) }) ∧
    (∀ i, s.params.rxCap ≤ i → perform (.write (.rxbuf i) v) s = .fault (.noSuchByte i)) ∧
    perform (.write .rxLen v) s =
      if v ≤ s.params.rxCap then .next { s with rxLen := v } else .refused .countAboveRxCap

/-- R184: while a request is outstanding `HOST.TX` gives the host that request's frame (the premise is the invariant
of `EveryStepKeepsTheInvariant`); whatever is outstanding, it gives `TXBUF[0..7]` while `TX_LEN` = 8, again and again,
and no bytes while `TX_LEN` = 0. The bytes are given as the model's `answer` (log 6). -/
def Obligations.HostTxGivesTheOutstandingFrame : Prop :=
  (∀ (s : State) (k : Kind), Inv s → s.reqKind = some k →
    perform .tx s = .next { s with answer := .bytes (requestFrame k s) }) ∧
  (∀ s : State, s.txLen = 8 → perform .tx s = .next { s with
    answer := .bytes [s.readTx 0, s.readTx 1, s.readTx 2, s.readTx 3, s.readTx 4, s.readTx 5, s.readTx 6, s.readTx 7] }) ∧
  ∀ s : State, s.txLen = 0 → perform .tx s = .next { s with answer := .bytes [] }

/-! ### The whole machine -/

/-- The invariant holds after power-on. -/
def Obligations.InvariantHoldsAfterPowerOn : Prop := Inv State.reset

/-- Every step keeps the invariant: canonical buffers inside their sizes, counts in range, the outstanding
request's frame in `TXBUF` with no result yet, and what each outcome goes with. -/
def Obligations.EveryStepKeepsTheInvariant : Prop :=
  ∀ s t : State, Inv s → step s = .next t → Inv t

/-- R21, R227: `ADDR` changes only at a `Valid` parse of kind `Discover` or `Assign`, or at a reset. -/
def Obligations.AddressChangesOnlyAtAValidParseOrReset : Prop :=
  ∀ s t : State, step s = .next t → t.addr ≠ s.addr →
    nextResets s ∨ (nextParses s ∧ t.outcome = .valid ∧ (s.reqKind = some .discover ∨ s.reqKind = some .assign))

/-- R27, R28: the measurement registers and `MEAS_VALID` change only together at a `Valid` parse of kind `Read`, or
at a reset; after such a parse the set is the reply's, whole. -/
def Obligations.MeasurementsChangeOnlyAtAValidReadOrReset : Prop :=
  ∀ s t : State, step s = .next t → (t.meas ≠ s.meas ∨ t.measValid ≠ s.measValid) →
    nextResets s ∨
      (nextParses s ∧ t.outcome = .valid ∧ s.reqKind = some .read ∧ t.measValid = true ∧
        parse s.params .read s.addr s.rxBytes = .valid (.read t.meas))

/-- R26: no operation of the block but `RESET` changes `RXBUF` or `RX_LEN`. -/
def Obligations.OperationsLeaveTheReceiveBuffer : Prop :=
  ∀ (i : Instr) (s t : State), isOperation i = true → i ≠ .reset → exec i s = .next t →
    t.rxLen = s.rxLen ∧ t.rxbuf = s.rxbuf ∧ ∀ a, t.readRx a = s.readRx a

/-- R34: the transitions of `REQ_KIND`, the block's only sequencing state. -/
def Obligations.RequestKindTransitions : Prop :=
  ∀ (i : Instr) (s t : State), exec i s = .next t →
    t.reqKind = match i with
      | .crcInit => s.reqKind
      | .crcUpd _ => s.reqKind
      | .reqDisc => some .discover
      | .reqAssign _ => some .assign
      | .reqRead => if s.addr = 0x00 then none else some .read
      | .rspParse => none
      | .reset => none
      | .frameReqDisc => s.reqKind
      | .frameReqAssign _ _ _ => s.reqKind
      | .frameReqRead _ _ _ => s.reqKind
      | .frameRspRead _ _ _ _ => s.reqKind
      | .frameRspDisc _ _ _ => s.reqKind
      | .frameRspAssign _ _ _ _ => s.reqKind

/-- R35, R37: nothing configures the block at run time. -/
def Obligations.ParametersNeverChange : Prop :=
  ∀ s t : State, step s = .next t → t.params = s.params

/-- R197: an act is refused or stopped exactly when it is not admitted; every admitted act completes. What R197 does
not say is the model's choice: that a separate write of `RX_LEN` above `RX_CAP` is refused and an index outside its
buffer faults (log 9), that `TXBUF[i]` may be read
whatever `TX_LEN` is and `REQ_ARG` whatever `REQ_KIND` is (log 7: R229 gives them narrower windows), when a frame act
is admitted (log 5), and which codes are frames (log 8). The premise on
`TX_LEN` is part of the invariant. -/
def Obligations.AdmittedActsAndOnlyTheyComplete : Prop :=
  ∀ (a : HostAct) (s : State), RangesOk s → ((∃ t, perform a s = .next t) ↔ Admitted a s)

/-! ### The composite exchanges -/

/-- R186: `discoverAddress()`, from any state and for every reply that fits: a `Valid` reply stores its value's low
byte as the address and returns it as `Ok`; any other returns its outcome as `Err` and keeps the address. `MEAS`,
`MEAS_VALID` and `CRC` are untouched. A discovery reply with any 0 to 255 data bytes is such a `Valid` one. -/
def Obligations.DiscoverAddressExchange : Prop :=
  (∀ (s : State) (data : List Byte), data.length ≤ 255 → data.length + 5 ≤ s.params.rxCap →
    ∃ t : State, discoverAddress (closed ([0x00, 0x04, BitVec.ofNat 8 data.length] ++ data)) s =
        .next (.ok (BitVec.ofNat 8 (weightedSum data)), t) ∧
      t.outcome = .valid ∧ t.outKind = some .discover ∧ t.reqKind = none ∧ t.discVal = weightedSum data ∧
      t.addr = BitVec.ofNat 8 (weightedSum data) ∧ t.meas = s.meas ∧ t.measValid = s.measValid ∧ t.crc = s.crc) ∧
  ∀ (s : State) (reply : List Byte), reply.length ≤ s.params.rxCap →
    (∀ v, parse s.params .discover s.addr reply = .valid (.discover v) →
      ∃ t : State, discoverAddress reply s = .next (.ok (BitVec.ofNat 8 v), t) ∧ t.outcome = .valid ∧
        t.outKind = some .discover ∧ t.reqKind = none ∧ t.addr = BitVec.ofNat 8 v ∧ t.discVal = v ∧
        t.meas = s.meas ∧ t.measValid = s.measValid ∧ t.crc = s.crc) ∧
    ∀ o, failsWith (parse s.params .discover s.addr reply) o →
      ∃ t : State, discoverAddress reply s = .next (.error o, t) ∧ t.outcome = o ∧ t.outKind = some .discover ∧
        t.reqKind = none ∧ t.addr = s.addr ∧ t.meas = s.meas ∧ t.measValid = s.measValid ∧ t.crc = s.crc

/-- R187: `assignAddress(n)`, from any state and for every reply that fits: a `Valid` reply stores n, whatever value
it reports, and returns `Ok(())`; any other returns its outcome as `Err` and keeps the address. `MEAS`, `MEAS_VALID`
and `CRC` are untouched. -/
def Obligations.AssignAddressExchange : Prop :=
  (∀ (s : State) (n x v : Byte), 8 ≤ s.params.rxCap →
    ∃ t : State, assignAddress n (closed [0x00, 0x06, 0x00, 0x20, x, v]) s = .next (.ok (), t) ∧
      t.outcome = .valid ∧ t.outKind = some .assign ∧ t.reqKind = none ∧ t.addr = n ∧ t.asgVal = v ∧
      t.meas = s.meas ∧ t.measValid = s.measValid ∧ t.crc = s.crc) ∧
  ∀ (s : State) (n : Byte) (reply : List Byte), reply.length ≤ s.params.rxCap →
    (∀ v, parse s.params .assign s.addr reply = .valid (.assign v) →
      ∃ t : State, assignAddress n reply s = .next (.ok (), t) ∧ t.outcome = .valid ∧ t.outKind = some .assign ∧
        t.reqKind = none ∧ t.addr = n ∧ t.asgVal = v ∧
        t.meas = s.meas ∧ t.measValid = s.measValid ∧ t.crc = s.crc) ∧
    ∀ o, failsWith (parse s.params .assign s.addr reply) o →
      ∃ t : State, assignAddress n reply s = .next (.error o, t) ∧ t.outcome = o ∧ t.outKind = some .assign ∧
        t.reqKind = none ∧ t.addr = s.addr ∧ t.meas = s.meas ∧ t.measValid = s.measValid ∧ t.crc = s.crc

/-- R188: `readMeasurements()` returns `Err(NoAddressAssigned)` with no Transport step while no address is known;
otherwise, for every reply that fits, a `Valid` reply replaces the set and a copy of it is returned as `Ok`, and any
other returns its outcome as `Err` and keeps the previous set. -/
def Obligations.ReadMeasurementsExchange : Prop :=
  ∀ (s : State) (reply : List Byte),
    (s.addr = 0x00 → readMeasurements reply s = .next (.error .noAddressAssigned,
      { s with outcome := .noAddressAssigned, outKind := some .read, txLen := 0, reqKind := none })) ∧
    (s.addr ≠ 0x00 → reply.length ≤ s.params.rxCap →
      (∀ m, parse s.params .read s.addr reply = .valid (.read m) →
        ∃ t : State, readMeasurements reply s = .next (.ok m, t) ∧ t.outcome = .valid ∧ t.outKind = some .read ∧
          t.reqKind = none ∧ t.addr = s.addr ∧ t.rxBytes = reply ∧ t.meas = m ∧ t.measValid = true) ∧
      ∀ o, failsWith (parse s.params .read s.addr reply) o →
        ∃ t : State, readMeasurements reply s = .next (.error o, t) ∧ t.outcome = o ∧ t.outKind = some .read ∧
          t.reqKind = none ∧ t.addr = s.addr ∧ t.rxBytes = reply ∧ t.meas = s.meas ∧ t.measValid = s.measValid)

/-! ### The state and the arguments of the step -/

/-- R37, R20: what `step` does to the block is the block's step with the parameters, the next act and its operand or
bytes as arguments; nothing else that `State` carries beside the block has an effect on it, and the arguments stay as
they were but for the act taken. That `State` carries them is the model's choice (log 1, log 2), as is the number at
which free values are taken (log 3, log 4). -/
def Obligations.StepIsTheBlockStepWithItsArguments : Prop :=
  ∀ (s : State) (a : HostAct) (rest : List HostAct), s.inbox = a :: rest →
    blockOutcome (step s) = blockStep s.params s.epoch a s.toBlock ∧
    ∀ t : State, step s = .next t → t.params = s.params ∧ t.inbox = rest
end

