-- ==== Sys2Proof/Laws/State.lean ====
section
/-! SUPPORT. What each named update of the state does to each field, so that no proof unfolds a record update. -/

namespace Sys2Proof.Machine

set_option Elab.async false

/-! ### `State.setAddr` -/

@[simp] theorem State.setAddr_addr (s : State) (v : Byte) : (s.setAddr v).addr = v := rfl
@[simp] theorem State.setAddr_crc (s : State) (v : Byte) : (s.setAddr v).crc = s.crc := rfl
@[simp] theorem State.setAddr_reqKind (s : State) (v : Byte) : (s.setAddr v).reqKind = s.reqKind := rfl
@[simp] theorem State.setAddr_reqArg (s : State) (v : Byte) : (s.setAddr v).reqArg = s.reqArg := rfl
@[simp] theorem State.setAddr_txbuf (s : State) (v : Byte) : (s.setAddr v).txbuf = s.txbuf := rfl
@[simp] theorem State.setAddr_txLen (s : State) (v : Byte) : (s.setAddr v).txLen = s.txLen := rfl
@[simp] theorem State.setAddr_rxbuf (s : State) (v : Byte) : (s.setAddr v).rxbuf = s.rxbuf := rfl
@[simp] theorem State.setAddr_rxLen (s : State) (v : Byte) : (s.setAddr v).rxLen = s.rxLen := rfl
@[simp] theorem State.setAddr_meas (s : State) (v : Byte) : (s.setAddr v).meas = s.meas := rfl
@[simp] theorem State.setAddr_measValid (s : State) (v : Byte) : (s.setAddr v).measValid = s.measValid := rfl
@[simp] theorem State.setAddr_outcome (s : State) (v : Byte) : (s.setAddr v).outcome = s.outcome := rfl
@[simp] theorem State.setAddr_outKind (s : State) (v : Byte) : (s.setAddr v).outKind = s.outKind := rfl
@[simp] theorem State.setAddr_discVal (s : State) (v : Byte) : (s.setAddr v).discVal = s.discVal := rfl
@[simp] theorem State.setAddr_asgVal (s : State) (v : Byte) : (s.setAddr v).asgVal = s.asgVal := rfl
@[simp] theorem State.setAddr_params (s : State) (v : Byte) : (s.setAddr v).params = s.params := rfl
@[simp] theorem State.setAddr_inbox (s : State) (v : Byte) : (s.setAddr v).inbox = s.inbox := rfl
@[simp] theorem State.setAddr_answer (s : State) (v : Byte) : (s.setAddr v).answer = s.answer := rfl
@[simp] theorem State.setAddr_epoch (s : State) (v : Byte) : (s.setAddr v).epoch = s.epoch := rfl

/-! ### `State.setCrc` -/

@[simp] theorem State.setCrc_addr (s : State) (v : Half) : (s.setCrc v).addr = s.addr := rfl
@[simp] theorem State.setCrc_crc (s : State) (v : Half) : (s.setCrc v).crc = v := rfl
@[simp] theorem State.setCrc_reqKind (s : State) (v : Half) : (s.setCrc v).reqKind = s.reqKind := rfl
@[simp] theorem State.setCrc_reqArg (s : State) (v : Half) : (s.setCrc v).reqArg = s.reqArg := rfl
@[simp] theorem State.setCrc_txbuf (s : State) (v : Half) : (s.setCrc v).txbuf = s.txbuf := rfl
@[simp] theorem State.setCrc_txLen (s : State) (v : Half) : (s.setCrc v).txLen = s.txLen := rfl
@[simp] theorem State.setCrc_rxbuf (s : State) (v : Half) : (s.setCrc v).rxbuf = s.rxbuf := rfl
@[simp] theorem State.setCrc_rxLen (s : State) (v : Half) : (s.setCrc v).rxLen = s.rxLen := rfl
@[simp] theorem State.setCrc_meas (s : State) (v : Half) : (s.setCrc v).meas = s.meas := rfl
@[simp] theorem State.setCrc_measValid (s : State) (v : Half) : (s.setCrc v).measValid = s.measValid := rfl
@[simp] theorem State.setCrc_outcome (s : State) (v : Half) : (s.setCrc v).outcome = s.outcome := rfl
@[simp] theorem State.setCrc_outKind (s : State) (v : Half) : (s.setCrc v).outKind = s.outKind := rfl
@[simp] theorem State.setCrc_discVal (s : State) (v : Half) : (s.setCrc v).discVal = s.discVal := rfl
@[simp] theorem State.setCrc_asgVal (s : State) (v : Half) : (s.setCrc v).asgVal = s.asgVal := rfl
@[simp] theorem State.setCrc_params (s : State) (v : Half) : (s.setCrc v).params = s.params := rfl
@[simp] theorem State.setCrc_inbox (s : State) (v : Half) : (s.setCrc v).inbox = s.inbox := rfl
@[simp] theorem State.setCrc_answer (s : State) (v : Half) : (s.setCrc v).answer = s.answer := rfl
@[simp] theorem State.setCrc_epoch (s : State) (v : Half) : (s.setCrc v).epoch = s.epoch := rfl

/-! ### `State.setReqKind` -/

@[simp] theorem State.setReqKind_addr (s : State) (k : Option Kind) : (s.setReqKind k).addr = s.addr := rfl
@[simp] theorem State.setReqKind_crc (s : State) (k : Option Kind) : (s.setReqKind k).crc = s.crc := rfl
@[simp] theorem State.setReqKind_reqKind (s : State) (k : Option Kind) : (s.setReqKind k).reqKind = k := rfl
@[simp] theorem State.setReqKind_reqArg (s : State) (k : Option Kind) : (s.setReqKind k).reqArg = s.reqArg := rfl
@[simp] theorem State.setReqKind_txbuf (s : State) (k : Option Kind) : (s.setReqKind k).txbuf = s.txbuf := rfl
@[simp] theorem State.setReqKind_txLen (s : State) (k : Option Kind) : (s.setReqKind k).txLen = s.txLen := rfl
@[simp] theorem State.setReqKind_rxbuf (s : State) (k : Option Kind) : (s.setReqKind k).rxbuf = s.rxbuf := rfl
@[simp] theorem State.setReqKind_rxLen (s : State) (k : Option Kind) : (s.setReqKind k).rxLen = s.rxLen := rfl
@[simp] theorem State.setReqKind_meas (s : State) (k : Option Kind) : (s.setReqKind k).meas = s.meas := rfl
@[simp] theorem State.setReqKind_measValid (s : State) (k : Option Kind) : (s.setReqKind k).measValid = s.measValid := rfl
@[simp] theorem State.setReqKind_outcome (s : State) (k : Option Kind) : (s.setReqKind k).outcome = s.outcome := rfl
@[simp] theorem State.setReqKind_outKind (s : State) (k : Option Kind) : (s.setReqKind k).outKind = s.outKind := rfl
@[simp] theorem State.setReqKind_discVal (s : State) (k : Option Kind) : (s.setReqKind k).discVal = s.discVal := rfl
@[simp] theorem State.setReqKind_asgVal (s : State) (k : Option Kind) : (s.setReqKind k).asgVal = s.asgVal := rfl
@[simp] theorem State.setReqKind_params (s : State) (k : Option Kind) : (s.setReqKind k).params = s.params := rfl
@[simp] theorem State.setReqKind_inbox (s : State) (k : Option Kind) : (s.setReqKind k).inbox = s.inbox := rfl
@[simp] theorem State.setReqKind_answer (s : State) (k : Option Kind) : (s.setReqKind k).answer = s.answer := rfl
@[simp] theorem State.setReqKind_epoch (s : State) (k : Option Kind) : (s.setReqKind k).epoch = s.epoch := rfl

/-! ### `State.setReqArg` -/

@[simp] theorem State.setReqArg_addr (s : State) (v : Byte) : (s.setReqArg v).addr = s.addr := rfl
@[simp] theorem State.setReqArg_crc (s : State) (v : Byte) : (s.setReqArg v).crc = s.crc := rfl
@[simp] theorem State.setReqArg_reqKind (s : State) (v : Byte) : (s.setReqArg v).reqKind = s.reqKind := rfl
@[simp] theorem State.setReqArg_reqArg (s : State) (v : Byte) : (s.setReqArg v).reqArg = v := rfl
@[simp] theorem State.setReqArg_txbuf (s : State) (v : Byte) : (s.setReqArg v).txbuf = s.txbuf := rfl
@[simp] theorem State.setReqArg_txLen (s : State) (v : Byte) : (s.setReqArg v).txLen = s.txLen := rfl
@[simp] theorem State.setReqArg_rxbuf (s : State) (v : Byte) : (s.setReqArg v).rxbuf = s.rxbuf := rfl
@[simp] theorem State.setReqArg_rxLen (s : State) (v : Byte) : (s.setReqArg v).rxLen = s.rxLen := rfl
@[simp] theorem State.setReqArg_meas (s : State) (v : Byte) : (s.setReqArg v).meas = s.meas := rfl
@[simp] theorem State.setReqArg_measValid (s : State) (v : Byte) : (s.setReqArg v).measValid = s.measValid := rfl
@[simp] theorem State.setReqArg_outcome (s : State) (v : Byte) : (s.setReqArg v).outcome = s.outcome := rfl
@[simp] theorem State.setReqArg_outKind (s : State) (v : Byte) : (s.setReqArg v).outKind = s.outKind := rfl
@[simp] theorem State.setReqArg_discVal (s : State) (v : Byte) : (s.setReqArg v).discVal = s.discVal := rfl
@[simp] theorem State.setReqArg_asgVal (s : State) (v : Byte) : (s.setReqArg v).asgVal = s.asgVal := rfl
@[simp] theorem State.setReqArg_params (s : State) (v : Byte) : (s.setReqArg v).params = s.params := rfl
@[simp] theorem State.setReqArg_inbox (s : State) (v : Byte) : (s.setReqArg v).inbox = s.inbox := rfl
@[simp] theorem State.setReqArg_answer (s : State) (v : Byte) : (s.setReqArg v).answer = s.answer := rfl
@[simp] theorem State.setReqArg_epoch (s : State) (v : Byte) : (s.setReqArg v).epoch = s.epoch := rfl

/-! ### `State.setTx` -/

@[simp] theorem State.setTx_addr (s : State) (B : List Byte) : (s.setTx B).addr = s.addr := rfl
@[simp] theorem State.setTx_crc (s : State) (B : List Byte) : (s.setTx B).crc = s.crc := rfl
@[simp] theorem State.setTx_reqKind (s : State) (B : List Byte) : (s.setTx B).reqKind = s.reqKind := rfl
@[simp] theorem State.setTx_reqArg (s : State) (B : List Byte) : (s.setTx B).reqArg = s.reqArg := rfl
@[simp] theorem State.setTx_txbuf (s : State) (B : List Byte) : (s.setTx B).txbuf = Memory.store s.txbuf 0 B := rfl
@[simp] theorem State.setTx_txLen (s : State) (B : List Byte) : (s.setTx B).txLen = 8 := rfl
@[simp] theorem State.setTx_rxbuf (s : State) (B : List Byte) : (s.setTx B).rxbuf = s.rxbuf := rfl
@[simp] theorem State.setTx_rxLen (s : State) (B : List Byte) : (s.setTx B).rxLen = s.rxLen := rfl
@[simp] theorem State.setTx_meas (s : State) (B : List Byte) : (s.setTx B).meas = s.meas := rfl
@[simp] theorem State.setTx_measValid (s : State) (B : List Byte) : (s.setTx B).measValid = s.measValid := rfl
@[simp] theorem State.setTx_outcome (s : State) (B : List Byte) : (s.setTx B).outcome = s.outcome := rfl
@[simp] theorem State.setTx_outKind (s : State) (B : List Byte) : (s.setTx B).outKind = s.outKind := rfl
@[simp] theorem State.setTx_discVal (s : State) (B : List Byte) : (s.setTx B).discVal = s.discVal := rfl
@[simp] theorem State.setTx_asgVal (s : State) (B : List Byte) : (s.setTx B).asgVal = s.asgVal := rfl
@[simp] theorem State.setTx_params (s : State) (B : List Byte) : (s.setTx B).params = s.params := rfl
@[simp] theorem State.setTx_inbox (s : State) (B : List Byte) : (s.setTx B).inbox = s.inbox := rfl
@[simp] theorem State.setTx_answer (s : State) (B : List Byte) : (s.setTx B).answer = s.answer := rfl
@[simp] theorem State.setTx_epoch (s : State) (B : List Byte) : (s.setTx B).epoch = s.epoch := rfl

/-! ### `State.clearTx` -/

@[simp] theorem State.clearTx_addr (s : State) : (s.clearTx).addr = s.addr := rfl
@[simp] theorem State.clearTx_crc (s : State) : (s.clearTx).crc = s.crc := rfl
@[simp] theorem State.clearTx_reqKind (s : State) : (s.clearTx).reqKind = s.reqKind := rfl
@[simp] theorem State.clearTx_reqArg (s : State) : (s.clearTx).reqArg = s.reqArg := rfl
@[simp] theorem State.clearTx_txbuf (s : State) : (s.clearTx).txbuf = s.txbuf := rfl
@[simp] theorem State.clearTx_txLen (s : State) : (s.clearTx).txLen = 0 := rfl
@[simp] theorem State.clearTx_rxbuf (s : State) : (s.clearTx).rxbuf = s.rxbuf := rfl
@[simp] theorem State.clearTx_rxLen (s : State) : (s.clearTx).rxLen = s.rxLen := rfl
@[simp] theorem State.clearTx_meas (s : State) : (s.clearTx).meas = s.meas := rfl
@[simp] theorem State.clearTx_measValid (s : State) : (s.clearTx).measValid = s.measValid := rfl
@[simp] theorem State.clearTx_outcome (s : State) : (s.clearTx).outcome = s.outcome := rfl
@[simp] theorem State.clearTx_outKind (s : State) : (s.clearTx).outKind = s.outKind := rfl
@[simp] theorem State.clearTx_discVal (s : State) : (s.clearTx).discVal = s.discVal := rfl
@[simp] theorem State.clearTx_asgVal (s : State) : (s.clearTx).asgVal = s.asgVal := rfl
@[simp] theorem State.clearTx_params (s : State) : (s.clearTx).params = s.params := rfl
@[simp] theorem State.clearTx_inbox (s : State) : (s.clearTx).inbox = s.inbox := rfl
@[simp] theorem State.clearTx_answer (s : State) : (s.clearTx).answer = s.answer := rfl
@[simp] theorem State.clearTx_epoch (s : State) : (s.clearTx).epoch = s.epoch := rfl

/-! ### `State.setRx` -/

@[simp] theorem State.setRx_addr (s : State) (B : List Byte) : (s.setRx B).addr = s.addr := rfl
@[simp] theorem State.setRx_crc (s : State) (B : List Byte) : (s.setRx B).crc = s.crc := rfl
@[simp] theorem State.setRx_reqKind (s : State) (B : List Byte) : (s.setRx B).reqKind = s.reqKind := rfl
@[simp] theorem State.setRx_reqArg (s : State) (B : List Byte) : (s.setRx B).reqArg = s.reqArg := rfl
@[simp] theorem State.setRx_txbuf (s : State) (B : List Byte) : (s.setRx B).txbuf = s.txbuf := rfl
@[simp] theorem State.setRx_txLen (s : State) (B : List Byte) : (s.setRx B).txLen = s.txLen := rfl
@[simp] theorem State.setRx_rxbuf (s : State) (B : List Byte) : (s.setRx B).rxbuf = Memory.store s.rxbuf 0 B := rfl
@[simp] theorem State.setRx_rxLen (s : State) (B : List Byte) : (s.setRx B).rxLen = B.length := rfl
@[simp] theorem State.setRx_meas (s : State) (B : List Byte) : (s.setRx B).meas = s.meas := rfl
@[simp] theorem State.setRx_measValid (s : State) (B : List Byte) : (s.setRx B).measValid = s.measValid := rfl
@[simp] theorem State.setRx_outcome (s : State) (B : List Byte) : (s.setRx B).outcome = s.outcome := rfl
@[simp] theorem State.setRx_outKind (s : State) (B : List Byte) : (s.setRx B).outKind = s.outKind := rfl
@[simp] theorem State.setRx_discVal (s : State) (B : List Byte) : (s.setRx B).discVal = s.discVal := rfl
@[simp] theorem State.setRx_asgVal (s : State) (B : List Byte) : (s.setRx B).asgVal = s.asgVal := rfl
@[simp] theorem State.setRx_params (s : State) (B : List Byte) : (s.setRx B).params = s.params := rfl
@[simp] theorem State.setRx_inbox (s : State) (B : List Byte) : (s.setRx B).inbox = s.inbox := rfl
@[simp] theorem State.setRx_answer (s : State) (B : List Byte) : (s.setRx B).answer = s.answer := rfl
@[simp] theorem State.setRx_epoch (s : State) (B : List Byte) : (s.setRx B).epoch = s.epoch := rfl

/-! ### `State.setRxByte` -/

@[simp] theorem State.setRxByte_addr (s : State) (i : Nat) (b : Byte) : (s.setRxByte i b).addr = s.addr := rfl
@[simp] theorem State.setRxByte_crc (s : State) (i : Nat) (b : Byte) : (s.setRxByte i b).crc = s.crc := rfl
@[simp] theorem State.setRxByte_reqKind (s : State) (i : Nat) (b : Byte) : (s.setRxByte i b).reqKind = s.reqKind := rfl
@[simp] theorem State.setRxByte_reqArg (s : State) (i : Nat) (b : Byte) : (s.setRxByte i b).reqArg = s.reqArg := rfl
@[simp] theorem State.setRxByte_txbuf (s : State) (i : Nat) (b : Byte) : (s.setRxByte i b).txbuf = s.txbuf := rfl
@[simp] theorem State.setRxByte_txLen (s : State) (i : Nat) (b : Byte) : (s.setRxByte i b).txLen = s.txLen := rfl
@[simp] theorem State.setRxByte_rxbuf (s : State) (i : Nat) (b : Byte) : (s.setRxByte i b).rxbuf = Memory.write s.rxbuf i b := rfl
@[simp] theorem State.setRxByte_rxLen (s : State) (i : Nat) (b : Byte) : (s.setRxByte i b).rxLen = s.rxLen := rfl
@[simp] theorem State.setRxByte_meas (s : State) (i : Nat) (b : Byte) : (s.setRxByte i b).meas = s.meas := rfl
@[simp] theorem State.setRxByte_measValid (s : State) (i : Nat) (b : Byte) : (s.setRxByte i b).measValid = s.measValid := rfl
@[simp] theorem State.setRxByte_outcome (s : State) (i : Nat) (b : Byte) : (s.setRxByte i b).outcome = s.outcome := rfl
@[simp] theorem State.setRxByte_outKind (s : State) (i : Nat) (b : Byte) : (s.setRxByte i b).outKind = s.outKind := rfl
@[simp] theorem State.setRxByte_discVal (s : State) (i : Nat) (b : Byte) : (s.setRxByte i b).discVal = s.discVal := rfl
@[simp] theorem State.setRxByte_asgVal (s : State) (i : Nat) (b : Byte) : (s.setRxByte i b).asgVal = s.asgVal := rfl
@[simp] theorem State.setRxByte_params (s : State) (i : Nat) (b : Byte) : (s.setRxByte i b).params = s.params := rfl
@[simp] theorem State.setRxByte_inbox (s : State) (i : Nat) (b : Byte) : (s.setRxByte i b).inbox = s.inbox := rfl
@[simp] theorem State.setRxByte_answer (s : State) (i : Nat) (b : Byte) : (s.setRxByte i b).answer = s.answer := rfl
@[simp] theorem State.setRxByte_epoch (s : State) (i : Nat) (b : Byte) : (s.setRxByte i b).epoch = s.epoch := rfl

/-! ### `State.setRxLen` -/

@[simp] theorem State.setRxLen_addr (s : State) (n : Nat) : (s.setRxLen n).addr = s.addr := rfl
@[simp] theorem State.setRxLen_crc (s : State) (n : Nat) : (s.setRxLen n).crc = s.crc := rfl
@[simp] theorem State.setRxLen_reqKind (s : State) (n : Nat) : (s.setRxLen n).reqKind = s.reqKind := rfl
@[simp] theorem State.setRxLen_reqArg (s : State) (n : Nat) : (s.setRxLen n).reqArg = s.reqArg := rfl
@[simp] theorem State.setRxLen_txbuf (s : State) (n : Nat) : (s.setRxLen n).txbuf = s.txbuf := rfl
@[simp] theorem State.setRxLen_txLen (s : State) (n : Nat) : (s.setRxLen n).txLen = s.txLen := rfl
@[simp] theorem State.setRxLen_rxbuf (s : State) (n : Nat) : (s.setRxLen n).rxbuf = s.rxbuf := rfl
@[simp] theorem State.setRxLen_rxLen (s : State) (n : Nat) : (s.setRxLen n).rxLen = n := rfl
@[simp] theorem State.setRxLen_meas (s : State) (n : Nat) : (s.setRxLen n).meas = s.meas := rfl
@[simp] theorem State.setRxLen_measValid (s : State) (n : Nat) : (s.setRxLen n).measValid = s.measValid := rfl
@[simp] theorem State.setRxLen_outcome (s : State) (n : Nat) : (s.setRxLen n).outcome = s.outcome := rfl
@[simp] theorem State.setRxLen_outKind (s : State) (n : Nat) : (s.setRxLen n).outKind = s.outKind := rfl
@[simp] theorem State.setRxLen_discVal (s : State) (n : Nat) : (s.setRxLen n).discVal = s.discVal := rfl
@[simp] theorem State.setRxLen_asgVal (s : State) (n : Nat) : (s.setRxLen n).asgVal = s.asgVal := rfl
@[simp] theorem State.setRxLen_params (s : State) (n : Nat) : (s.setRxLen n).params = s.params := rfl
@[simp] theorem State.setRxLen_inbox (s : State) (n : Nat) : (s.setRxLen n).inbox = s.inbox := rfl
@[simp] theorem State.setRxLen_answer (s : State) (n : Nat) : (s.setRxLen n).answer = s.answer := rfl
@[simp] theorem State.setRxLen_epoch (s : State) (n : Nat) : (s.setRxLen n).epoch = s.epoch := rfl

/-! ### `State.setMeas` -/

@[simp] theorem State.setMeas_addr (s : State) (m : MeasSet) : (s.setMeas m).addr = s.addr := rfl
@[simp] theorem State.setMeas_crc (s : State) (m : MeasSet) : (s.setMeas m).crc = s.crc := rfl
@[simp] theorem State.setMeas_reqKind (s : State) (m : MeasSet) : (s.setMeas m).reqKind = s.reqKind := rfl
@[simp] theorem State.setMeas_reqArg (s : State) (m : MeasSet) : (s.setMeas m).reqArg = s.reqArg := rfl
@[simp] theorem State.setMeas_txbuf (s : State) (m : MeasSet) : (s.setMeas m).txbuf = s.txbuf := rfl
@[simp] theorem State.setMeas_txLen (s : State) (m : MeasSet) : (s.setMeas m).txLen = s.txLen := rfl
@[simp] theorem State.setMeas_rxbuf (s : State) (m : MeasSet) : (s.setMeas m).rxbuf = s.rxbuf := rfl
@[simp] theorem State.setMeas_rxLen (s : State) (m : MeasSet) : (s.setMeas m).rxLen = s.rxLen := rfl
@[simp] theorem State.setMeas_meas (s : State) (m : MeasSet) : (s.setMeas m).meas = m := rfl
@[simp] theorem State.setMeas_measValid (s : State) (m : MeasSet) : (s.setMeas m).measValid = true := rfl
@[simp] theorem State.setMeas_outcome (s : State) (m : MeasSet) : (s.setMeas m).outcome = s.outcome := rfl
@[simp] theorem State.setMeas_outKind (s : State) (m : MeasSet) : (s.setMeas m).outKind = s.outKind := rfl
@[simp] theorem State.setMeas_discVal (s : State) (m : MeasSet) : (s.setMeas m).discVal = s.discVal := rfl
@[simp] theorem State.setMeas_asgVal (s : State) (m : MeasSet) : (s.setMeas m).asgVal = s.asgVal := rfl
@[simp] theorem State.setMeas_params (s : State) (m : MeasSet) : (s.setMeas m).params = s.params := rfl
@[simp] theorem State.setMeas_inbox (s : State) (m : MeasSet) : (s.setMeas m).inbox = s.inbox := rfl
@[simp] theorem State.setMeas_answer (s : State) (m : MeasSet) : (s.setMeas m).answer = s.answer := rfl
@[simp] theorem State.setMeas_epoch (s : State) (m : MeasSet) : (s.setMeas m).epoch = s.epoch := rfl

/-! ### `State.setDiscVal` -/

@[simp] theorem State.setDiscVal_addr (s : State) (v : Nat) : (s.setDiscVal v).addr = s.addr := rfl
@[simp] theorem State.setDiscVal_crc (s : State) (v : Nat) : (s.setDiscVal v).crc = s.crc := rfl
@[simp] theorem State.setDiscVal_reqKind (s : State) (v : Nat) : (s.setDiscVal v).reqKind = s.reqKind := rfl
@[simp] theorem State.setDiscVal_reqArg (s : State) (v : Nat) : (s.setDiscVal v).reqArg = s.reqArg := rfl
@[simp] theorem State.setDiscVal_txbuf (s : State) (v : Nat) : (s.setDiscVal v).txbuf = s.txbuf := rfl
@[simp] theorem State.setDiscVal_txLen (s : State) (v : Nat) : (s.setDiscVal v).txLen = s.txLen := rfl
@[simp] theorem State.setDiscVal_rxbuf (s : State) (v : Nat) : (s.setDiscVal v).rxbuf = s.rxbuf := rfl
@[simp] theorem State.setDiscVal_rxLen (s : State) (v : Nat) : (s.setDiscVal v).rxLen = s.rxLen := rfl
@[simp] theorem State.setDiscVal_meas (s : State) (v : Nat) : (s.setDiscVal v).meas = s.meas := rfl
@[simp] theorem State.setDiscVal_measValid (s : State) (v : Nat) : (s.setDiscVal v).measValid = s.measValid := rfl
@[simp] theorem State.setDiscVal_outcome (s : State) (v : Nat) : (s.setDiscVal v).outcome = s.outcome := rfl
@[simp] theorem State.setDiscVal_outKind (s : State) (v : Nat) : (s.setDiscVal v).outKind = s.outKind := rfl
@[simp] theorem State.setDiscVal_discVal (s : State) (v : Nat) : (s.setDiscVal v).discVal = v := rfl
@[simp] theorem State.setDiscVal_asgVal (s : State) (v : Nat) : (s.setDiscVal v).asgVal = s.asgVal := rfl
@[simp] theorem State.setDiscVal_params (s : State) (v : Nat) : (s.setDiscVal v).params = s.params := rfl
@[simp] theorem State.setDiscVal_inbox (s : State) (v : Nat) : (s.setDiscVal v).inbox = s.inbox := rfl
@[simp] theorem State.setDiscVal_answer (s : State) (v : Nat) : (s.setDiscVal v).answer = s.answer := rfl
@[simp] theorem State.setDiscVal_epoch (s : State) (v : Nat) : (s.setDiscVal v).epoch = s.epoch := rfl

/-! ### `State.setAsgVal` -/

@[simp] theorem State.setAsgVal_addr (s : State) (v : Byte) : (s.setAsgVal v).addr = s.addr := rfl
@[simp] theorem State.setAsgVal_crc (s : State) (v : Byte) : (s.setAsgVal v).crc = s.crc := rfl
@[simp] theorem State.setAsgVal_reqKind (s : State) (v : Byte) : (s.setAsgVal v).reqKind = s.reqKind := rfl
@[simp] theorem State.setAsgVal_reqArg (s : State) (v : Byte) : (s.setAsgVal v).reqArg = s.reqArg := rfl
@[simp] theorem State.setAsgVal_txbuf (s : State) (v : Byte) : (s.setAsgVal v).txbuf = s.txbuf := rfl
@[simp] theorem State.setAsgVal_txLen (s : State) (v : Byte) : (s.setAsgVal v).txLen = s.txLen := rfl
@[simp] theorem State.setAsgVal_rxbuf (s : State) (v : Byte) : (s.setAsgVal v).rxbuf = s.rxbuf := rfl
@[simp] theorem State.setAsgVal_rxLen (s : State) (v : Byte) : (s.setAsgVal v).rxLen = s.rxLen := rfl
@[simp] theorem State.setAsgVal_meas (s : State) (v : Byte) : (s.setAsgVal v).meas = s.meas := rfl
@[simp] theorem State.setAsgVal_measValid (s : State) (v : Byte) : (s.setAsgVal v).measValid = s.measValid := rfl
@[simp] theorem State.setAsgVal_outcome (s : State) (v : Byte) : (s.setAsgVal v).outcome = s.outcome := rfl
@[simp] theorem State.setAsgVal_outKind (s : State) (v : Byte) : (s.setAsgVal v).outKind = s.outKind := rfl
@[simp] theorem State.setAsgVal_discVal (s : State) (v : Byte) : (s.setAsgVal v).discVal = s.discVal := rfl
@[simp] theorem State.setAsgVal_asgVal (s : State) (v : Byte) : (s.setAsgVal v).asgVal = v := rfl
@[simp] theorem State.setAsgVal_params (s : State) (v : Byte) : (s.setAsgVal v).params = s.params := rfl
@[simp] theorem State.setAsgVal_inbox (s : State) (v : Byte) : (s.setAsgVal v).inbox = s.inbox := rfl
@[simp] theorem State.setAsgVal_answer (s : State) (v : Byte) : (s.setAsgVal v).answer = s.answer := rfl
@[simp] theorem State.setAsgVal_epoch (s : State) (v : Byte) : (s.setAsgVal v).epoch = s.epoch := rfl

/-! ### `State.setAnswer` -/

@[simp] theorem State.setAnswer_addr (s : State) (a : Answer) : (s.setAnswer a).addr = s.addr := rfl
@[simp] theorem State.setAnswer_crc (s : State) (a : Answer) : (s.setAnswer a).crc = s.crc := rfl
@[simp] theorem State.setAnswer_reqKind (s : State) (a : Answer) : (s.setAnswer a).reqKind = s.reqKind := rfl
@[simp] theorem State.setAnswer_reqArg (s : State) (a : Answer) : (s.setAnswer a).reqArg = s.reqArg := rfl
@[simp] theorem State.setAnswer_txbuf (s : State) (a : Answer) : (s.setAnswer a).txbuf = s.txbuf := rfl
@[simp] theorem State.setAnswer_txLen (s : State) (a : Answer) : (s.setAnswer a).txLen = s.txLen := rfl
@[simp] theorem State.setAnswer_rxbuf (s : State) (a : Answer) : (s.setAnswer a).rxbuf = s.rxbuf := rfl
@[simp] theorem State.setAnswer_rxLen (s : State) (a : Answer) : (s.setAnswer a).rxLen = s.rxLen := rfl
@[simp] theorem State.setAnswer_meas (s : State) (a : Answer) : (s.setAnswer a).meas = s.meas := rfl
@[simp] theorem State.setAnswer_measValid (s : State) (a : Answer) : (s.setAnswer a).measValid = s.measValid := rfl
@[simp] theorem State.setAnswer_outcome (s : State) (a : Answer) : (s.setAnswer a).outcome = s.outcome := rfl
@[simp] theorem State.setAnswer_outKind (s : State) (a : Answer) : (s.setAnswer a).outKind = s.outKind := rfl
@[simp] theorem State.setAnswer_discVal (s : State) (a : Answer) : (s.setAnswer a).discVal = s.discVal := rfl
@[simp] theorem State.setAnswer_asgVal (s : State) (a : Answer) : (s.setAnswer a).asgVal = s.asgVal := rfl
@[simp] theorem State.setAnswer_params (s : State) (a : Answer) : (s.setAnswer a).params = s.params := rfl
@[simp] theorem State.setAnswer_inbox (s : State) (a : Answer) : (s.setAnswer a).inbox = s.inbox := rfl
@[simp] theorem State.setAnswer_answer (s : State) (a : Answer) : (s.setAnswer a).answer = a := rfl
@[simp] theorem State.setAnswer_epoch (s : State) (a : Answer) : (s.setAnswer a).epoch = s.epoch := rfl

/-! ### `State.setInbox` -/

@[simp] theorem State.setInbox_addr (s : State) (l : List HostAct) : (s.setInbox l).addr = s.addr := rfl
@[simp] theorem State.setInbox_crc (s : State) (l : List HostAct) : (s.setInbox l).crc = s.crc := rfl
@[simp] theorem State.setInbox_reqKind (s : State) (l : List HostAct) : (s.setInbox l).reqKind = s.reqKind := rfl
@[simp] theorem State.setInbox_reqArg (s : State) (l : List HostAct) : (s.setInbox l).reqArg = s.reqArg := rfl
@[simp] theorem State.setInbox_txbuf (s : State) (l : List HostAct) : (s.setInbox l).txbuf = s.txbuf := rfl
@[simp] theorem State.setInbox_txLen (s : State) (l : List HostAct) : (s.setInbox l).txLen = s.txLen := rfl
@[simp] theorem State.setInbox_rxbuf (s : State) (l : List HostAct) : (s.setInbox l).rxbuf = s.rxbuf := rfl
@[simp] theorem State.setInbox_rxLen (s : State) (l : List HostAct) : (s.setInbox l).rxLen = s.rxLen := rfl
@[simp] theorem State.setInbox_meas (s : State) (l : List HostAct) : (s.setInbox l).meas = s.meas := rfl
@[simp] theorem State.setInbox_measValid (s : State) (l : List HostAct) : (s.setInbox l).measValid = s.measValid := rfl
@[simp] theorem State.setInbox_outcome (s : State) (l : List HostAct) : (s.setInbox l).outcome = s.outcome := rfl
@[simp] theorem State.setInbox_outKind (s : State) (l : List HostAct) : (s.setInbox l).outKind = s.outKind := rfl
@[simp] theorem State.setInbox_discVal (s : State) (l : List HostAct) : (s.setInbox l).discVal = s.discVal := rfl
@[simp] theorem State.setInbox_asgVal (s : State) (l : List HostAct) : (s.setInbox l).asgVal = s.asgVal := rfl
@[simp] theorem State.setInbox_params (s : State) (l : List HostAct) : (s.setInbox l).params = s.params := rfl
@[simp] theorem State.setInbox_inbox (s : State) (l : List HostAct) : (s.setInbox l).inbox = l := rfl
@[simp] theorem State.setInbox_answer (s : State) (l : List HostAct) : (s.setInbox l).answer = s.answer := rfl
@[simp] theorem State.setInbox_epoch (s : State) (l : List HostAct) : (s.setInbox l).epoch = s.epoch := rfl

/-! ### `State.setOutcome` -/

@[simp] theorem State.setOutcome_addr (s : State) (o : OutcomeCode) : (s.setOutcome o).addr = s.addr := rfl
@[simp] theorem State.setOutcome_crc (s : State) (o : OutcomeCode) : (s.setOutcome o).crc = s.crc := rfl
@[simp] theorem State.setOutcome_reqKind (s : State) (o : OutcomeCode) : (s.setOutcome o).reqKind = s.reqKind := rfl
@[simp] theorem State.setOutcome_reqArg (s : State) (o : OutcomeCode) : (s.setOutcome o).reqArg = s.reqArg := rfl
@[simp] theorem State.setOutcome_txbuf (s : State) (o : OutcomeCode) : (s.setOutcome o).txbuf = s.txbuf := rfl
@[simp] theorem State.setOutcome_txLen (s : State) (o : OutcomeCode) : (s.setOutcome o).txLen = s.txLen := rfl
@[simp] theorem State.setOutcome_rxbuf (s : State) (o : OutcomeCode) : (s.setOutcome o).rxbuf = s.rxbuf := rfl
@[simp] theorem State.setOutcome_rxLen (s : State) (o : OutcomeCode) : (s.setOutcome o).rxLen = s.rxLen := rfl
@[simp] theorem State.setOutcome_meas (s : State) (o : OutcomeCode) : (s.setOutcome o).meas = s.meas := rfl
@[simp] theorem State.setOutcome_measValid (s : State) (o : OutcomeCode) : (s.setOutcome o).measValid = s.measValid := rfl
@[simp] theorem State.setOutcome_outcome (s : State) (o : OutcomeCode) : (s.setOutcome o).outcome = o := rfl
@[simp] theorem State.setOutcome_outKind (s : State) (o : OutcomeCode) : (s.setOutcome o).outKind = s.outKind := rfl
@[simp] theorem State.setOutcome_discVal (s : State) (o : OutcomeCode) : (s.setOutcome o).discVal = s.discVal := rfl
@[simp] theorem State.setOutcome_asgVal (s : State) (o : OutcomeCode) : (s.setOutcome o).asgVal = s.asgVal := rfl
@[simp] theorem State.setOutcome_params (s : State) (o : OutcomeCode) : (s.setOutcome o).params = s.params := rfl
@[simp] theorem State.setOutcome_inbox (s : State) (o : OutcomeCode) : (s.setOutcome o).inbox = s.inbox := rfl
@[simp] theorem State.setOutcome_answer (s : State) (o : OutcomeCode) : (s.setOutcome o).answer = s.answer := rfl
@[simp] theorem State.setOutcome_epoch (s : State) (o : OutcomeCode) : (s.setOutcome o).epoch = s.epoch := rfl

/-! ### `State.recordOutcome` -/

@[simp] theorem State.recordOutcome_addr (s : State) (o : OutcomeCode) (k : Kind) : (s.recordOutcome o k).addr = s.addr := rfl
@[simp] theorem State.recordOutcome_crc (s : State) (o : OutcomeCode) (k : Kind) : (s.recordOutcome o k).crc = s.crc := rfl
@[simp] theorem State.recordOutcome_reqKind (s : State) (o : OutcomeCode) (k : Kind) : (s.recordOutcome o k).reqKind = s.reqKind := rfl
@[simp] theorem State.recordOutcome_reqArg (s : State) (o : OutcomeCode) (k : Kind) : (s.recordOutcome o k).reqArg = s.reqArg := rfl
@[simp] theorem State.recordOutcome_txbuf (s : State) (o : OutcomeCode) (k : Kind) : (s.recordOutcome o k).txbuf = s.txbuf := rfl
@[simp] theorem State.recordOutcome_txLen (s : State) (o : OutcomeCode) (k : Kind) : (s.recordOutcome o k).txLen = s.txLen := rfl
@[simp] theorem State.recordOutcome_rxbuf (s : State) (o : OutcomeCode) (k : Kind) : (s.recordOutcome o k).rxbuf = s.rxbuf := rfl
@[simp] theorem State.recordOutcome_rxLen (s : State) (o : OutcomeCode) (k : Kind) : (s.recordOutcome o k).rxLen = s.rxLen := rfl
@[simp] theorem State.recordOutcome_meas (s : State) (o : OutcomeCode) (k : Kind) : (s.recordOutcome o k).meas = s.meas := rfl
@[simp] theorem State.recordOutcome_measValid (s : State) (o : OutcomeCode) (k : Kind) : (s.recordOutcome o k).measValid = s.measValid := rfl
@[simp] theorem State.recordOutcome_outcome (s : State) (o : OutcomeCode) (k : Kind) : (s.recordOutcome o k).outcome = o := rfl
@[simp] theorem State.recordOutcome_outKind (s : State) (o : OutcomeCode) (k : Kind) : (s.recordOutcome o k).outKind = some k := rfl
@[simp] theorem State.recordOutcome_discVal (s : State) (o : OutcomeCode) (k : Kind) : (s.recordOutcome o k).discVal = s.discVal := rfl
@[simp] theorem State.recordOutcome_asgVal (s : State) (o : OutcomeCode) (k : Kind) : (s.recordOutcome o k).asgVal = s.asgVal := rfl
@[simp] theorem State.recordOutcome_params (s : State) (o : OutcomeCode) (k : Kind) : (s.recordOutcome o k).params = s.params := rfl
@[simp] theorem State.recordOutcome_inbox (s : State) (o : OutcomeCode) (k : Kind) : (s.recordOutcome o k).inbox = s.inbox := rfl
@[simp] theorem State.recordOutcome_answer (s : State) (o : OutcomeCode) (k : Kind) : (s.recordOutcome o k).answer = s.answer := rfl
@[simp] theorem State.recordOutcome_epoch (s : State) (o : OutcomeCode) (k : Kind) : (s.recordOutcome o k).epoch = s.epoch := rfl

/-! ### `State.beginRequest` -/

@[simp] theorem State.beginRequest_addr (s : State) (k : Kind) (B : List Byte) : (s.beginRequest k B).addr = s.addr := rfl
@[simp] theorem State.beginRequest_crc (s : State) (k : Kind) (B : List Byte) : (s.beginRequest k B).crc = s.crc := rfl
@[simp] theorem State.beginRequest_reqKind (s : State) (k : Kind) (B : List Byte) : (s.beginRequest k B).reqKind = some k := rfl
@[simp] theorem State.beginRequest_reqArg (s : State) (k : Kind) (B : List Byte) : (s.beginRequest k B).reqArg = s.reqArg := rfl
@[simp] theorem State.beginRequest_txbuf (s : State) (k : Kind) (B : List Byte) : (s.beginRequest k B).txbuf = Memory.store s.txbuf 0 B := rfl
@[simp] theorem State.beginRequest_txLen (s : State) (k : Kind) (B : List Byte) : (s.beginRequest k B).txLen = 8 := rfl
@[simp] theorem State.beginRequest_rxbuf (s : State) (k : Kind) (B : List Byte) : (s.beginRequest k B).rxbuf = s.rxbuf := rfl
@[simp] theorem State.beginRequest_rxLen (s : State) (k : Kind) (B : List Byte) : (s.beginRequest k B).rxLen = s.rxLen := rfl
@[simp] theorem State.beginRequest_meas (s : State) (k : Kind) (B : List Byte) : (s.beginRequest k B).meas = s.meas := rfl
@[simp] theorem State.beginRequest_measValid (s : State) (k : Kind) (B : List Byte) : (s.beginRequest k B).measValid = s.measValid := rfl
@[simp] theorem State.beginRequest_outcome (s : State) (k : Kind) (B : List Byte) : (s.beginRequest k B).outcome = .none := rfl
@[simp] theorem State.beginRequest_outKind (s : State) (k : Kind) (B : List Byte) : (s.beginRequest k B).outKind = s.outKind := rfl
@[simp] theorem State.beginRequest_discVal (s : State) (k : Kind) (B : List Byte) : (s.beginRequest k B).discVal = s.discVal := rfl
@[simp] theorem State.beginRequest_asgVal (s : State) (k : Kind) (B : List Byte) : (s.beginRequest k B).asgVal = s.asgVal := rfl
@[simp] theorem State.beginRequest_params (s : State) (k : Kind) (B : List Byte) : (s.beginRequest k B).params = s.params := rfl
@[simp] theorem State.beginRequest_inbox (s : State) (k : Kind) (B : List Byte) : (s.beginRequest k B).inbox = s.inbox := rfl
@[simp] theorem State.beginRequest_answer (s : State) (k : Kind) (B : List Byte) : (s.beginRequest k B).answer = s.answer := rfl
@[simp] theorem State.beginRequest_epoch (s : State) (k : Kind) (B : List Byte) : (s.beginRequest k B).epoch = s.epoch := rfl

/-! ### `State.resetBlock` -/

@[simp] theorem State.resetBlock_addr (s : State) : (s.resetBlock).addr = 0x00 := rfl
@[simp] theorem State.resetBlock_crc (s : State) : (s.resetBlock).crc = 0xFFFF := rfl
@[simp] theorem State.resetBlock_reqKind (s : State) : (s.resetBlock).reqKind = none := rfl
@[simp] theorem State.resetBlock_reqArg (s : State) : (s.resetBlock).reqArg = Config.freeReqArg (s.epoch + 1) := rfl
@[simp] theorem State.resetBlock_txbuf (s : State) : (s.resetBlock).txbuf = [] := rfl
@[simp] theorem State.resetBlock_txLen (s : State) : (s.resetBlock).txLen = 0 := rfl
@[simp] theorem State.resetBlock_rxbuf (s : State) : (s.resetBlock).rxbuf = [] := rfl
@[simp] theorem State.resetBlock_rxLen (s : State) : (s.resetBlock).rxLen = 0 := rfl
@[simp] theorem State.resetBlock_meas (s : State) : (s.resetBlock).meas = freeMeasSet (s.epoch + 1) := rfl
@[simp] theorem State.resetBlock_measValid (s : State) : (s.resetBlock).measValid = false := rfl
@[simp] theorem State.resetBlock_outcome (s : State) : (s.resetBlock).outcome = .none := rfl
@[simp] theorem State.resetBlock_outKind (s : State) : (s.resetBlock).outKind = none := rfl
@[simp] theorem State.resetBlock_discVal (s : State) : (s.resetBlock).discVal = (Config.freeDiscVal (s.epoch + 1)).toNat := rfl
@[simp] theorem State.resetBlock_asgVal (s : State) : (s.resetBlock).asgVal = Config.freeAsgVal (s.epoch + 1) := rfl
@[simp] theorem State.resetBlock_params (s : State) : (s.resetBlock).params = s.params := rfl
@[simp] theorem State.resetBlock_inbox (s : State) : (s.resetBlock).inbox = s.inbox := rfl
@[simp] theorem State.resetBlock_answer (s : State) : (s.resetBlock).answer = s.answer := rfl
@[simp] theorem State.resetBlock_epoch (s : State) : (s.resetBlock).epoch = s.epoch + 1 := rfl

/-! ### The block beside what `State` carries -/

@[simp] theorem State.setAnswer_toBlock (s : State) (a : Answer) : (s.setAnswer a).toBlock = s.toBlock := rfl
@[simp] theorem State.setInbox_toBlock (s : State) (l : List HostAct) : (s.setInbox l).toBlock = s.toBlock := rfl

end Sys2Proof.Machine
end

