-- ==== Sys2Proof/Laws/Memory.lean ====
section
/-! SUPPORT. The buffers: a read after a write, the frame of a write, and that every operation keeps the canonical
form and the size. -/

namespace Sys2Proof.Machine

set_option Elab.async false

theorem Memory.read_nil (i : Nat) : Memory.read [] i = none := rfl

/-- A read after a write: the byte written at its index, every other index as before. -/
theorem Memory.read_write (m : Memory) (i : Nat) (b : Byte) (j : Nat) :
    Memory.read (Memory.write m i b) j = if i = j then some b else Memory.read m j := by
  induction m with
  | nil => simp [Memory.write, Memory.read]
  | cons x m ih =>
    simp only [Memory.write]
    split_ifs with h1 h2 <;> simp only [Memory.read, ih] <;> grind

/-- A read after consecutive writes from index `i`. -/
theorem Memory.read_store (B : List Byte) (m : Memory) (i j : Nat) :
    Memory.read (Memory.store m i B) j =
      if i ≤ j ∧ j < i + B.length then some (byteAt B (j - i)) else Memory.read m j := by
  induction B generalizing m i with
  | nil =>
    have : ¬ (i ≤ j ∧ j < i + ([] : List Byte).length) := by
      simp only [List.length_nil]
      omega
    rw [if_neg this, Memory.store]
  | cons b bs ih =>
    rw [Memory.store, ih, Memory.read_write]
    rcases Nat.lt_trichotomy i j with h | h | h
    · have : j - i = (j - (i + 1)) + 1 := by omega
      have h1 : i ≤ j := by omega
      have h2 : i + 1 ≤ j := h
      have h3 : i ≠ j := by omega
      have h4 : byteAt (b :: bs) (j - i) = byteAt bs (j - (i + 1)) := by
        rw [this]
        simp [byteAt]
      have h5 : i + (bs.length + 1) = i + 1 + bs.length := by omega
      simp [h1, h2, h3, h4, h5]
    · subst h
      simp [byteAt]
    · have h1 : ¬ i ≤ j := by omega
      have h2 : ¬ i + 1 ≤ j := by omega
      have h3 : i ≠ j := by omega
      simp [h1, h2, h3]

/-- The first index of a canonical memory is the least. -/
theorem Memory.write_head (x : Host.Cell) (m : Memory) (i : Nat) (b : Byte) (hx : x.1 < i)
    (h : Memory.wf (x :: m) = true) : ∀ y ∈ (Memory.write m i b).head?, x.1 < y.1 := by
  intro y hy
  cases m with
  | nil => simp [Memory.write] at hy; subst hy; exact hx
  | cons z m =>
    simp only [Memory.wf, Bool.and_eq_true, decide_eq_true_eq] at h
    simp only [Memory.write] at hy
    split_ifs at hy <;> simp at hy <;> subst hy <;> first | exact hx | exact h.1

theorem Memory.wf_cons (x : Host.Cell) (m : Memory) :
    Memory.wf (x :: m) = true ↔ Memory.wf m = true ∧ ∀ y ∈ m.head?, x.1 < y.1 := by
  cases m with
  | nil => simp [Memory.wf]
  | cons z m => simp [Memory.wf, and_comm]

/-- A write keeps the canonical form. -/
theorem Memory.wf_write (m : Memory) (i : Nat) (b : Byte) (h : Memory.wf m = true) :
    Memory.wf (Memory.write m i b) = true := by
  induction m with
  | nil => rfl
  | cons x m ih =>
    have h' := h
    rw [Memory.wf_cons] at h'
    simp only [Memory.write]
    split_ifs with h1 h2
    · rw [Memory.wf_cons]
      exact ⟨h, by simpa using h1⟩
    · subst h2
      rw [Memory.wf_cons]
      exact h'
    · rw [Memory.wf_cons]
      exact ⟨ih h'.1, Memory.write_head x m i b (by omega) h⟩

/-- Consecutive writes keep the canonical form. -/
theorem Memory.wf_store (B : List Byte) (m : Memory) (i : Nat) (h : Memory.wf m = true) :
    Memory.wf (Memory.store m i B) = true := by
  induction B generalizing m i with
  | nil => exact h
  | cons b bs ih => exact ih _ _ (Memory.wf_write m i b h)

/-- A write below the size keeps the size. -/
theorem Memory.below_write (n : Nat) (m : Memory) (i : Nat) (b : Byte) (hi : i < n)
    (h : Memory.below n m = true) : Memory.below n (Memory.write m i b) = true := by
  induction m with
  | nil => simpa [Memory.below, Memory.write] using hi
  | cons x m ih =>
    simp only [Memory.below, List.all_cons, Bool.and_eq_true, decide_eq_true_eq] at h ih
    simp only [Memory.write]
    split_ifs <;> simp only [Memory.below, List.all_cons, Bool.and_eq_true, decide_eq_true_eq] <;>
      first | exact ⟨hi, h⟩ | exact ⟨hi, h.2⟩ | exact ⟨h.1, ih h.2⟩

/-- Consecutive writes below the size keep the size. -/
theorem Memory.below_store (n : Nat) (B : List Byte) (m : Memory) (i : Nat) (hi : i + B.length ≤ n)
    (h : Memory.below n m = true) : Memory.below n (Memory.store m i B) = true := by
  induction B generalizing m i with
  | nil => exact h
  | cons b bs ih =>
    simp only [List.length_cons] at hi
    exact ih _ _ (by omega) (Memory.below_write n m i b (by omega) h)

/-! ### Reading a buffer after an update -/

theorem State.readTx_congr {s t : State} (h1 : t.txbuf = s.txbuf) (h2 : t.epoch = s.epoch) (i : Nat) :
    t.readTx i = s.readTx i := by simp [State.readTx, h1, h2]

theorem State.readRx_congr {s t : State} (h1 : t.rxbuf = s.rxbuf) (h2 : t.epoch = s.epoch) (i : Nat) :
    t.readRx i = s.readRx i := by simp [State.readRx, h1, h2]

theorem State.rxBytes_congr {s t : State} (h1 : t.rxbuf = s.rxbuf) (h2 : t.epoch = s.epoch)
    (h3 : t.rxLen = s.rxLen) : t.rxBytes = s.rxBytes := by
  simp only [State.rxBytes, h3]
  exact List.map_congr_left fun i _ => State.readRx_congr h1 h2 i

/-- What `TXBUF` reads as after a frame has been put there. -/
theorem State.readTx_setTx (s : State) (B : List Byte) (i : Nat) :
    (s.setTx B).readTx i = if i < B.length then byteAt B i else s.readTx i := by
  simp only [State.readTx, State.setTx_txbuf, State.setTx_epoch, Memory.read_store]
  by_cases h : i < B.length <;> simp [h]

/-- What `TXBUF` reads as after a `REQ.*` has built a frame. -/
theorem State.readTx_beginRequest (s : State) (k : Kind) (B : List Byte) (i : Nat) :
    (s.beginRequest k B).readTx i = if i < B.length then byteAt B i else s.readTx i := by
  rw [← State.readTx_setTx]
  exact State.readTx_congr rfl rfl i

/-- What `RXBUF` reads as after `HOST.RX`. -/
theorem State.readRx_setRx (s : State) (B : List Byte) (i : Nat) :
    (s.setRx B).readRx i = if i < B.length then byteAt B i else s.readRx i := by
  simp only [State.readRx, State.setRx_rxbuf, State.setRx_epoch, Memory.read_store]
  by_cases h : i < B.length <;> simp [h]

/-- What `RXBUF` reads as after a single write. -/
theorem State.readRx_setRxByte (s : State) (i : Nat) (b : Byte) (j : Nat) :
    (s.setRxByte i b).readRx j = if i = j then b else s.readRx j := by
  simp only [State.readRx, State.setRxByte_rxbuf, State.setRxByte_epoch, Memory.read_write]
  by_cases h : i = j <;> simp [h]

theorem map_byteAt_range (B : List Byte) : (List.range B.length).map (byteAt B) = B := by
  apply List.ext_getElem
  · simp
  · intro i h1 h2
    simp [byteAt, List.getElem?_eq_getElem h2]

/-- After `HOST.RX` the parser reads exactly the bytes the host stored. -/
theorem State.rxBytes_setRx (s : State) (B : List Byte) : (s.setRx B).rxBytes = B := by
  have h : (s.setRx B).rxBytes = (List.range B.length).map (byteAt B) := by
    refine List.map_congr_left fun i hi => ?_
    rw [State.readRx_setRx]
    simp_all
  rw [h, map_byteAt_range]

end Sys2Proof.Machine
end

