-- ==== Sys2Proof/Laws/Ops.lean ====
section
/-! SUPPORT. One lemma for each shared operation that says everything it can do: cite these instead of unfolding
the meanings. -/

namespace Sys2Proof.Machine

set_option Elab.async false

/-! ### Bytes -/

/-- The bits of `{h, l}` (R9). -/
theorem getLsbD_le16 (l h : Byte) (i : Nat) :
    (le16 l h).getLsbD i = if i < 8 then l.getLsbD i else h.getLsbD (i - 8) := by
  change BitVec.getLsbD (w := 8 + 8) (h ++ l) i = _
  rw [BitVec.getLsbD_append]

/-- The two byte orders read the same pair the two ways round (R9). -/
theorem be16_eq_le16 (h l : Byte) : be16 h l = le16 l h := rfl

/-- A checksum written low byte first and read back (R78). -/
@[simp] theorem le16_lo8_hi8 (c : Half) : le16 (lo8 c) (hi8 c) = c := by
  apply BitVec.eq_of_getLsbD_eq
  intro i hi
  rw [getLsbD_le16]
  split_ifs with h
  · simp [lo8, h]
  · simp [hi8, show 8 + (i - 8) = i by omega, show i - 8 < 8 by omega]

/-- The pair read low byte first determines its bytes. -/
@[simp] theorem lo8_le16 (l h : Byte) : lo8 (le16 l h) = l := by
  apply BitVec.eq_of_getLsbD_eq
  intro i hi
  simp [lo8, getLsbD_le16, hi]

/-- The pair read low byte first determines its bytes. -/
@[simp] theorem hi8_le16 (l h : Byte) : hi8 (le16 l h) = h := by
  apply BitVec.eq_of_getLsbD_eq
  intro i hi
  simp [hi8, getLsbD_le16, hi]

/-- The fields of a command word (R85). -/
theorem getLsbD_commandOf (op : BitVec 4) (arg : Byte) (i : Nat) :
    (commandOf op arg).getLsbD i = if i < 8 then arg.getLsbD i else op.getLsbD (i - 8) := by
  change BitVec.getLsbD (w := 4 + 8) (op ++ arg) i = _
  rw [BitVec.getLsbD_append]

/-- The bits of a decoded float (R149). -/
theorem getLsbD_floatBits (p : FloatPerm) (w0 w1 w2 w3 : Byte) (i : Nat) :
    (floatBits p w0 w1 w2 w3).getLsbD i =
      if i < 8 then (wireByte w0 w1 w2 w3 p.m0).getLsbD i
      else if i < 16 then (wireByte w0 w1 w2 w3 p.m1).getLsbD (i - 8)
      else if i < 24 then (wireByte w0 w1 w2 w3 p.m2).getLsbD (i - 16)
      else (wireByte w0 w1 w2 w3 p.m3).getLsbD (i - 24) := by
  change BitVec.getLsbD (w := 8 + 8 + 8 + 8) (_ ++ _ ++ _ ++ _) i = _
  simp only [BitVec.getLsbD_append]
  by_cases h1 : i < 8
  · simp [h1]
  by_cases h2 : i < 16
  · simp [h1, h2, show i - 8 < 8 by omega]
  by_cases h3 : i < 24
  · simp [h1, h2, h3, show ¬ i - 8 < 8 by omega, show i - 8 - 8 = i - 16 by omega,
      show i - 16 < 8 by omega]
  · simp [h1, h2, h3, show ¬ i - 8 < 8 by omega, show ¬ i - 8 - 8 < 8 by omega,
      show i - 8 - 8 - 8 = i - 24 by omega]

@[simp] theorem frame_length (body : List Byte) : (frame body).length = body.length + 2 := by
  simp [frame, le16Bytes]

@[simp] theorem assignBody_length (n : Byte) : (assignBody n).length = 6 := rfl
@[simp] theorem readBody_length (a : Byte) : (readBody a).length = 6 := rfl
@[simp] theorem discoverBody_length : discoverBody.length = 6 := rfl
@[simp] theorem buildAssign_length (n : Byte) : (buildAssign n).length = 8 := rfl
@[simp] theorem buildRead_length (a : Byte) : (buildRead a).length = 8 := rfl
@[simp] theorem buildDiscover_length : buildDiscover.length = 8 := rfl

@[simp] theorem readReply_length (a : Byte) (data : List Byte) (c d : Byte) :
    (readReply a data c d).length = data.length + 5 := by
  simp [readReply]

@[simp] theorem discoverReply_length (data : List Byte) (c d : Byte) :
    (discoverReply data c d).length = data.length + 5 := by
  simp [discoverReply]

@[simp] theorem assignReply_length (x v c d : Byte) : (assignReply x v c d).length = 8 := rfl

theorem hi8_zext (n : Byte) : hi8 (n.setWidth 16) = 0 := by
  ext i hi
  simp [hi8]

theorem lo8_zext (n : Byte) : lo8 (n.setWidth 16) = n := by
  simp [lo8]

/-- The body of an assignment request, byte by byte (R73). -/
theorem assignBody_eq (n : Byte) : assignBody n = [0x00, 0x06, 0x00, 0x20, 0x00, n] := by
  simp only [assignBody, be16Bytes, hi8_zext, lo8_zext]
  rfl

/-- The body of a read request, byte by byte (R74). -/
theorem readBody_eq (a : Byte) : readBody a = [a, 0x04, 0x00, 0x00, 0x00, 0x10] := rfl

/-- The bytes of an assignment reply, byte by byte (R77). -/
theorem assignReply_eq (x v c d : Byte) : assignReply x v c d = [0x00, 0x06, 0x00, 0x20, x, v, c, d] := rfl

/-! ### The checksum -/

@[simp] theorem crcRun_nil (c : Half) : crcRun c [] = c := rfl

@[simp] theorem crcRun_cons (c : Half) (b : Byte) (B : List Byte) : crcRun c (b :: B) = crcRun (crcStep c b) B := rfl

theorem crcRun_append (c : Half) (X Y : List Byte) : crcRun c (X ++ Y) = crcRun (crcRun c X) Y := by
  simp [crcRun]

/-! ### The discovery value -/

/-- `n` data bytes give a value below 2^(8n) (R151). -/
theorem positional_lt (l : List Byte) : positional l < 2 ^ (8 * l.length) := by
  induction l with
  | nil => simp [positional]
  | cons b bs ih =>
    have hb := b.isLt
    have h1 : 2 ^ (8 * (bs.length + 1)) = 256 * 2 ^ (8 * bs.length) := by
      rw [Nat.mul_add, Nat.pow_add]; omega
    rw [positional, List.length_cons, h1]
    omega

/-- The discovery value always fits `DISC_VAL` (R29, D21). -/
theorem discValue_lt (B : List Byte) (L : Nat) (h : L ≤ 255) : discValue B L < 2 ^ discWidth := by
  refine lt_of_lt_of_le (positional_lt _) (Nat.pow_le_pow_right (by norm_num) ?_)
  have := List.length_take_le L (B.drop 3)
  simp only [discWidth]
  omega

theorem countOf_le (B : List Byte) : countOf B ≤ 255 := by
  have := (byteAt B 2).isLt
  simp only [countOf]
  omega

/-- The payload of a `Valid` result is one of its request's kind. -/
theorem parse_valid {p : Params} {k : Kind} {A : Byte} {B : List Byte} {pl : Payload}
    (h : parse p k A B = .valid pl) :
    (k = .discover ∧ pl = .discover (discValue B (countOf B))) ∨
    (k = .assign ∧ pl = .assign (byteAt B 5)) ∨
    (k = .read ∧ pl = .read (floatsOf p.floatPerm B)) := by
  unfold parse at h
  split_ifs at h
  cases k
  · simp only [parseDiscover] at h
    split_ifs at h
    simp_all
  · simp only [parseAssign] at h
    split_ifs at h
    simp_all
  · simp only [parseRead] at h
    split_ifs at h
    simp_all

/-! ### Host accesses -/

theorem hostRx_next {B : List Byte} {s t : State} (h : hostRx B s = .next t) :
    B.length ≤ s.params.rxCap ∧ t = s.setRx B := by
  unfold hostRx at h
  split_ifs at h with h1
  exact ⟨h1, by cases h; rfl⟩

theorem hostTx_next {s t : State} (h : hostTx s = .next t) : ∃ a, t = s.setAnswer a := by
  unfold hostTx at h
  split_ifs at h
  exact ⟨_, by cases h; rfl⟩

theorem giveValue_next {v : Nat} {s t : State} (h : giveValue v s = .next t) : t = s.setAnswer (.value v) := by
  cases h; rfl

theorem hostRead_next {r : HostReg} {s t : State} (h : hostRead r s = .next t) : ∃ v, t = s.setAnswer (.value v) := by
  cases r <;> simp only [hostRead] at h <;> (try split_ifs at h) <;> exact ⟨_, giveValue_next h⟩

theorem hostWrite_next {r : HostReg} {v : Nat} {s t : State} (h : hostWrite r v s = .next t) :
    (∃ i, r = .rxbuf i ∧ i < s.params.rxCap ∧ t = s.setRxByte i (BitVec.ofNat 8 v)) ∨
    (r = .rxLen ∧ v ≤ s.params.rxCap ∧ t = s.setRxLen v) := by
  cases r <;> simp only [hostWrite] at h <;> (try split_ifs at h with h1) <;> cases h
  · exact .inl ⟨_, rfl, h1, rfl⟩
  · exact .inr ⟨rfl, h1, rfl⟩

/-! ### The meanings -/

theorem giveBuilt_next {F : List Byte} {s t : State} (h : giveBuilt F s = .next t) : t = s.setAnswer (.bytes F) := by
  cases h
  rfl

theorem receiveReply_next {k : Kind} {B : List Byte} {s t : State} (h : receiveReply k B s = .next t) :
    B.length ≤ s.params.rxCap ∧ t = (s.setRx B).setAnswer (.parsed (parse s.params k s.addr B)) := by
  unfold receiveReply at h
  split at h
  · rename_i u hu
    obtain ⟨h1, rfl⟩ := hostRx_next hu
    exact ⟨h1, by cases h; rfl⟩
  · cases h
  · cases h

theorem execReqRead_next {s t : State} (h : execReqRead s = .next t) :
    (s.addr = broadcast ∧ t = ((s.recordOutcome .noAddressAssigned .read).clearTx).setReqKind none) ∨
    (s.addr ≠ broadcast ∧ t = s.beginRequest .read (buildRead s.addr)) := by
  unfold execReqRead at h
  split_ifs at h with h1 <;> cases h
  · exact .inl ⟨h1, rfl⟩
  · exact .inr ⟨h1, rfl⟩

theorem execRspParse_next {s t : State} (h : execRspParse s = .next t) :
    ∃ k, s.reqKind = some k ∧ s.rxLen ≤ s.params.rxCap ∧
      t = s.finishParse k (parse s.params k s.addr s.rxBytes) := by
  unfold execRspParse at h
  split at h
  · cases h
  · rename_i k hk
    split_ifs at h with h1
    exact ⟨k, hk, h1, by cases h; rfl⟩

/-- What `RSP.PARSE` can leave: a failure writes the status and `REQ_KIND` alone (R157); a `Valid` result commits
the payload of its kind (R156). -/
theorem finishParse_cases (s : State) (k : Kind) (p : Params) (A : Byte) (B : List Byte) :
    (∃ o, o ≠ .none ∧ o ≠ .valid ∧ o ≠ .noAddressAssigned ∧
      s.finishParse k (parse p k A B) = (s.recordOutcome o k).setReqKind none) ∨
    (k = .discover ∧ s.finishParse k (parse p k A B) =
      (((s.recordOutcome .valid k).setDiscVal (discValue B (countOf B))).setAddr
        (BitVec.ofNat 8 (discValue B (countOf B)))).setReqKind none) ∨
    (k = .assign ∧ s.finishParse k (parse p k A B) =
      (((s.recordOutcome .valid k).setAsgVal (byteAt B 5)).setAddr s.reqArg).setReqKind none) ∨
    (k = .read ∧ s.finishParse k (parse p k A B) =
      ((s.recordOutcome .valid k).setMeas (floatsOf p.floatPerm B)).setReqKind none) := by
  cases h : parse p k A B with
  | valid pl =>
    rcases parse_valid h with ⟨rfl, rfl⟩ | ⟨rfl, rfl⟩ | ⟨rfl, rfl⟩
    · exact .inr (.inl ⟨rfl, rfl⟩)
    · exact .inr (.inr (.inl ⟨rfl, rfl⟩))
    · exact .inr (.inr (.inr ⟨rfl, rfl⟩))
  | checksumMismatch => exact .inl ⟨.checksumMismatch, by simp, by simp, by simp, rfl⟩
  | malformed => exact .inl ⟨.malformed, by simp, by simp, by simp, rfl⟩
  | unexpected => exact .inl ⟨.unexpected, by simp, by simp, by simp, rfl⟩

/-- Everything that an instruction can do when it answers a next state. -/
theorem exec_next {i : Instr} {s t : State} (h : exec i s = .next t) :
    (i = .crcInit ∧ t = s.setCrc crcInitValue) ∨
    (∃ b, i = .crcUpd b ∧ t = s.setCrc (crcStep s.crc b)) ∨
    (i = .reqDisc ∧ t = s.beginRequest .discover buildDiscover) ∨
    (∃ n, i = .reqAssign n ∧ t = (s.beginRequest .assign (buildAssign n)).setReqArg n) ∨
    (i = .reqRead ∧ s.addr = broadcast ∧
      t = ((s.recordOutcome .noAddressAssigned .read).clearTx).setReqKind none) ∨
    (i = .reqRead ∧ s.addr ≠ broadcast ∧ t = s.beginRequest .read (buildRead s.addr)) ∨
    (∃ k, i = .rspParse ∧ s.reqKind = some k ∧ s.rxLen ≤ s.params.rxCap ∧
      t = s.finishParse k (parse s.params k s.addr s.rxBytes)) ∨
    (i = .reset ∧ t = s.resetBlock) ∨
    (∃ a, t = s.setAnswer a) ∨
    (∃ B a, B.length ≤ s.params.rxCap ∧ t = (s.setRx B).setAnswer a) := by
  cases i <;> simp only [exec] at h
  case crcInit => cases h; simp
  case crcUpd b => cases h; simp
  case reqDisc => cases h; simp
  case reqAssign n => cases h; simp
  case reqRead =>
    rcases execReqRead_next h with ⟨h1, h2⟩ | ⟨h1, h2⟩
    · exact .inr (.inr (.inr (.inr (.inl ⟨rfl, h1, h2⟩))))
    · exact .inr (.inr (.inr (.inr (.inr (.inl ⟨rfl, h1, h2⟩)))))
  case rspParse =>
    obtain ⟨k, h1, h2, h3⟩ := execRspParse_next h
    exact .inr (.inr (.inr (.inr (.inr (.inr (.inl ⟨k, rfl, h1, h2, h3⟩))))))
  case reset =>
    cases h
    exact .inr (.inr (.inr (.inr (.inr (.inr (.inr (.inl ⟨rfl, rfl⟩)))))))
  case frameReqDisc =>
    cases h
    exact .inr (.inr (.inr (.inr (.inr (.inr (.inr (.inr (.inl ⟨_, rfl⟩))))))))
  case frameReqAssign n c d =>
    exact .inr (.inr (.inr (.inr (.inr (.inr (.inr (.inr (.inl ⟨_, giveBuilt_next h⟩))))))))
  case frameReqRead a c d =>
    exact .inr (.inr (.inr (.inr (.inr (.inr (.inr (.inr (.inl ⟨_, giveBuilt_next h⟩))))))))
  case frameRspRead a data c d =>
    obtain ⟨h1, h2⟩ := receiveReply_next h
    exact .inr (.inr (.inr (.inr (.inr (.inr (.inr (.inr (.inr ⟨_, _, h1, h2⟩))))))))
  case frameRspDisc data c d =>
    obtain ⟨h1, h2⟩ := receiveReply_next h
    exact .inr (.inr (.inr (.inr (.inr (.inr (.inr (.inr (.inr ⟨_, _, h1, h2⟩))))))))
  case frameRspAssign x v c d =>
    obtain ⟨h1, h2⟩ := receiveReply_next h
    exact .inr (.inr (.inr (.inr (.inr (.inr (.inr (.inr (.inr ⟨_, _, h1, h2⟩))))))))

/-- Everything that an act of the outside can do when it answers a next state. -/
theorem perform_next {a : HostAct} {s t : State} (h : perform a s = .next t) :
    (a = .powerOn ∧ t = s.resetBlock) ∨
    (∃ c i, a = .issue c ∧ decode c = .ok i ∧ exec i s = .next t) ∨
    (∃ B, a = .rx B ∧ B.length ≤ s.params.rxCap ∧ t = s.setRx B) ∨
    (∃ w, (a = .tx ∨ ∃ r, a = .read r) ∧ t = s.setAnswer w) ∨
    (∃ i v, a = .write (.rxbuf i) v ∧ i < s.params.rxCap ∧ t = s.setRxByte i (BitVec.ofNat 8 v)) ∨
    (∃ v, a = .write .rxLen v ∧ v ≤ s.params.rxCap ∧ t = s.setRxLen v) := by
  cases a <;> simp only [perform] at h
  case powerOn => cases h; exact .inl ⟨rfl, rfl⟩
  case issue c =>
    unfold issue at h
    split at h
    · rename_i i hi
      exact .inr (.inl ⟨c, i, rfl, hi, h⟩)
    · cases h
  case rx B => exact .inr (.inr (.inl ⟨B, rfl, hostRx_next h⟩))
  case tx =>
    obtain ⟨w, hw⟩ := hostTx_next h
    exact .inr (.inr (.inr (.inl ⟨w, .inl rfl, hw⟩)))
  case read r =>
    obtain ⟨v, hv⟩ := hostRead_next h
    exact .inr (.inr (.inr (.inl ⟨_, .inr ⟨r, rfl⟩, hv⟩)))
  case write r v =>
    rcases hostWrite_next h with ⟨i, rfl, h1, h2⟩ | ⟨rfl, h1, h2⟩
    · exact .inr (.inr (.inr (.inr (.inl ⟨i, v, rfl, h1, h2⟩))))
    · exact .inr (.inr (.inr (.inr (.inr ⟨v, rfl, h1, h2⟩))))

/-- Everything that a step can do when it answers a next state. -/
theorem step_next {s t : State} (h : step s = .next t) :
    (s.inbox = [] ∧ t = s) ∨ (∃ a rest, s.inbox = a :: rest ∧ perform a (s.setInbox rest) = .next t) := by
  unfold step at h
  split at h
  · rename_i hs
    exact .inl ⟨hs, by cases h; rfl⟩
  · rename_i a rest hs
    exact .inr ⟨a, rest, hs, h⟩

/-! ### Sequences and what they return -/

@[simp] theorem andThen_next (s : State) (f : State → Host.Outcome State Fault Refusal) :
    andThen (.next s) f = f s := rfl
@[simp] theorem andThen_fault (r : Fault) (f : State → Host.Outcome State Fault Refusal) :
    andThen (.fault r) f = .fault r := rfl
@[simp] theorem andThen_refused (r : Refusal) (f : State → Host.Outcome State Fault Refusal) :
    andThen (.refused r) f = .refused r := rfl

@[simp] theorem giveBack_next {β : Type} (value : State → β) (s : State) :
    giveBack value (.next s) = .next (value s, s) := rfl
@[simp] theorem giveBack_fault {β : Type} (value : State → β) (r : Fault) :
    giveBack value (.fault r) = .fault r := rfl
@[simp] theorem giveBack_refused {β : Type} (value : State → β) (r : Refusal) :
    giveBack value (.refused r) = .refused r := rfl

theorem resultOf_valid {α : Type} (value : State → α) {s : State} (h : s.outcome = .valid) :
    resultOf value s = .ok (value s) := if_pos h

theorem resultOf_failed {α : Type} (value : State → α) {s : State} (h : s.outcome ≠ .valid) :
    resultOf value s = .error s.outcome := if_neg h

/-- Everything that a call can return: the value at the state in which its sequence ends. -/
theorem giveBack_eq_next {β : Type} {value : State → β} {o : Host.Outcome State Fault Refusal} {r : β} {t : State}
    (h : giveBack value o = .next (r, t)) : o = .next t ∧ r = value t := by
  cases o <;> cases h
  exact ⟨rfl, rfl⟩

/-! ### The block's step -/

@[simp] theorem Block.withArguments_toBlock (b : Block) (p : Params) (e : Nat) :
    (b.withArguments p e).toBlock = b := rfl
@[simp] theorem Block.withArguments_params (b : Block) (p : Params) (e : Nat) :
    (b.withArguments p e).params = p := rfl
@[simp] theorem Block.withArguments_inbox (b : Block) (p : Params) (e : Nat) :
    (b.withArguments p e).inbox = [] := rfl
@[simp] theorem Block.withArguments_answer (b : Block) (p : Params) (e : Nat) :
    (b.withArguments p e).answer = .none := rfl
@[simp] theorem Block.withArguments_epoch (b : Block) (p : Params) (e : Nat) :
    (b.withArguments p e).epoch = e := rfl

@[simp] theorem blockOutcome_next (t : State) : blockOutcome (.next t) = .next t.toBlock := rfl
@[simp] theorem blockOutcome_fault (f : Fault) : blockOutcome (.fault f) = .fault f := rfl
@[simp] theorem blockOutcome_refused (r : Refusal) : blockOutcome (.refused r) = .refused r := rfl

/-- Everything that the block's step can do when it answers a next block; `perform_next` says the rest. -/
theorem blockStep_next {p : Params} {e : Nat} {a : HostAct} {b b' : Block} (h : blockStep p e a b = .next b') :
    ∃ t : State, perform a (b.withArguments p e) = .next t ∧ b' = t.toBlock := by
  unfold blockStep at h
  cases hp : perform a (b.withArguments p e) <;> rw [hp] at h <;> cases h
  exact ⟨_, rfl, rfl⟩

end Sys2Proof.Machine
end

