-- ==== Sys2Proof/Laws/PerInstr.lean ====
section
/-! SUPPORT. Per instruction: its encoding matches the `match` and `mask` of its own row of spec/opcode_table.json
(30_encoding.md R90). -/

namespace Sys2Proof.Laws

set_option Elab.async false

open Sys2Proof.Machine

/-- `match` and `mask` of an instruction's row: over the command word, or over the leading bytes of the frame. -/
def rowOf : Instr → (CommandWord × CommandWord) ⊕ List (Byte × Byte)
  | .crcInit => .inl (0x100, 0xFFF)
  | .crcUpd _ => .inl (0x200, 0xF00)
  | .reqDisc => .inl (0x400, 0xFFF)
  | .reqAssign _ => .inl (0x500, 0xF00)
  | .reqRead => .inl (0x600, 0xFFF)
  | .rspParse => .inl (0x800, 0xFFF)
  | .reset => .inl (0xF00, 0xFFF)
  | .frameReqDisc => .inr rowReqDisc
  | .frameReqAssign _ _ _ => .inr rowReqAssign
  | .frameReqRead _ _ _ => .inr rowReqRead
  | .frameRspRead _ _ _ _ => .inr rowRspRead
  | .frameRspDisc _ _ _ => .inr rowRspDisc
  | .frameRspAssign _ _ _ _ => .inr rowRspAssign

/-- A code matches a row's `match` and `mask`. -/
def codeMatches : (CommandWord × CommandWord) ⊕ List (Byte × Byte) → Code → Bool
  | .inl (m, k), .command w => selects w m k
  | .inr ps, .frame _ B => frameMatches ps B
  | .inl _, .frame _ _ => false
  | .inr _, .command _ => false

/-- The encoding of an instruction matches its own row. -/
def RowMatch.Statement (i : Instr) : Prop := codeMatches (rowOf i) (encode i) = true

/-- A byte is a byte: a mask of zeros asks nothing. -/
theorem and_zero_mask (b : Byte) : b &&& 0x00 = 0x00 := by simp

theorem RowMatch.crcInit : RowMatch.Statement .crcInit := rfl
theorem RowMatch.crcUpd (b : Byte) : RowMatch.Statement (.crcUpd b) := by
  revert b; unfold RowMatch.Statement; decide +kernel
theorem RowMatch.reqDisc : RowMatch.Statement .reqDisc := rfl
theorem RowMatch.reqAssign (n : Byte) : RowMatch.Statement (.reqAssign n) := by
  revert n; unfold RowMatch.Statement; decide +kernel
theorem RowMatch.reqRead : RowMatch.Statement .reqRead := rfl
theorem RowMatch.rspParse : RowMatch.Statement .rspParse := rfl
theorem RowMatch.reset : RowMatch.Statement .reset := rfl
theorem RowMatch.frameReqDisc : RowMatch.Statement .frameReqDisc := by
  unfold RowMatch.Statement; decide +kernel
theorem RowMatch.frameReqAssign (n c d : Byte) : RowMatch.Statement (.frameReqAssign n c d) := by
  simp [RowMatch.Statement, codeMatches, rowOf, encode, assignBody_eq, rowReqAssign, frameMatches]
theorem RowMatch.frameReqRead (a c d : Byte) : RowMatch.Statement (.frameReqRead a c d) := by
  simp [RowMatch.Statement, codeMatches, rowOf, encode, readBody_eq, rowReqRead, frameMatches]
theorem RowMatch.frameRspRead (a : Byte) (data : List Byte) (c d : Byte) :
    RowMatch.Statement (.frameRspRead a data c d) := by
  simp [RowMatch.Statement, codeMatches, rowOf, encode, readReply, rowRspRead, frameMatches, fcRead]
theorem RowMatch.frameRspDisc (data : List Byte) (c d : Byte) :
    RowMatch.Statement (.frameRspDisc data c d) := by
  simp [RowMatch.Statement, codeMatches, rowOf, encode, discoverReply, rowRspDisc, frameMatches, fcRead, broadcast]
theorem RowMatch.frameRspAssign (x v c d : Byte) : RowMatch.Statement (.frameRspAssign x v c d) := by
  simp [RowMatch.Statement, codeMatches, rowOf, encode, assignReply_eq, rowRspAssign, frameMatches]

end Sys2Proof.Laws
end

