-- ==== Sys2Proof/Tests/Slice0.lean ====
section
/-! SUPPORT. Tests on the vectors of 95_test_vectors.md, the smoke test of WellFormed, and a witness for every
statement that has hypotheses. -/

namespace Sys2Proof.Tests

set_option Elab.async false

open Sys2Proof.Machine Sys2Proof.Claims

/-! ### WellFormed: one ill-formed term for each check -/

theorem test_wellFormed_refuses_a_request_with_another_checksum :
    (Instr.frameReqAssign 0x07 0x00 0x00).wellFormed = false ∧
    (Instr.frameReqRead 0x05 0x00 0x00).wellFormed = false := by decide +kernel

theorem test_wellFormed_refuses_the_broadcast_address :
    (Instr.frameReqRead 0x00 0xF0 0x17).wellFormed = false ∧
    (Instr.frameRspRead 0x00 (List.replicate 32 0) 0x00 0x00).wellFormed = false := by decide +kernel

theorem test_wellFormed_refuses_a_wrong_data_length :
    (Instr.frameRspRead 0x05 (List.replicate 31 0) 0x00 0x00).wellFormed = false ∧
    (Instr.frameRspDisc (List.replicate 256 0) 0x00 0x00).wellFormed = false := by decide +kernel

/-! ### Decoding: words written out bit by bit from 30_encoding.md R86 and the table's `encoding` strings -/

theorem test_decode_commands :
    decode (.command 0b000100000000) = .ok .crcInit ∧
    decode (.command 0b001010110001) = .ok (.crcUpd 0b10110001) ∧
    decode (.command 0b010000000000) = .ok .reqDisc ∧
    decode (.command 0b010101101110) = .ok (.reqAssign 0b01101110) ∧
    decode (.command 0b011000000000) = .ok .reqRead ∧
    decode (.command 0b100000000000) = .ok .rspParse ∧
    decode (.command 0b111100000000) = .ok .reset := by decide +kernel

theorem test_decode_request_frames :
    decode (.frame .request [0b00000000, 0b00000100, 0b00000000, 0b00100000, 0b00000000, 0b00000001, 0b00110001,
      0b11010001]) = .ok .frameReqDisc ∧
    decode (.frame .request [0b00000000, 0b00000110, 0b00000000, 0b00100000, 0b00000000, 0b00101010, 0b00001000,
      0b00001110]) = .ok (.frameReqAssign 0x2A 0x08 0x0E) ∧
    decode (.frame .request [0b10000000, 0b00000100, 0b00000000, 0b00000000, 0b00000000, 0b00010000, 0b11101111,
      0b11010111]) = .ok (.frameReqRead 0x80 0xEF 0xD7) := by decide +kernel

theorem test_decode_reply_frames :
    decode (.frame .reply ([0x05, 0x04, 0x20] ++ List.replicate 31 0x11 ++ [0x22, 0x33, 0x44])) =
      .ok (.frameRspRead 0x05 (List.replicate 31 0x11 ++ [0x22]) 0x33 0x44) ∧
    decode (.frame .reply [0x00, 0x04, 0x00, 0x73, 0x00]) = .ok (.frameRspDisc [] 0x73 0x00) ∧
    decode (.frame .reply [0x00, 0x06, 0x00, 0x20, 0x12, 0x07, 0xC4, 0xB3]) =
      .ok (.frameRspAssign 0x12 0x07 0xC4 0xB3) := by decide +kernel

/-- V46, and frames that are none. -/
theorem test_decode_refuses :
    [0x000, 0x300, 0x7FF, 0x900, 0xE00, 0x101, 0x401, 0x6FF, 0x801, 0xF01].all
      (fun w => decode (.command w) == .error (.reservedCommand w)) = true ∧
    decode (.frame .request [0x00, 0x06, 0x00, 0x21, 0x00, 0x07, 0xC8, 0x13]) = .error .noFrameRow ∧
    decode (.frame .reply [0x00, 0x04, 0x01, 0x05, 0x80]) = .error .frameLength := by decide +kernel

theorem test_table_words :
    decodeTableWord 16 0x231 = some (.crcUpd 0x31) ∧ decodeTableWord 12 0xF00 = some .reset ∧
    decodeTableWord 64 0xD131010020000400 = some .frameReqDisc ∧
    decodeTableWord 24 0x200405 = some (.frameRspRead 0x05 (List.replicate 32 0) 0 0) ∧
    decodeTableWord 16 0x1000 = none := by decide +kernel

/-! ### The pure functions -/

/-- V13, V11 (the check value). -/
theorem test_crc16 :
    crc16 [0x00] = 0x40BF ∧ crc16 [0x01, 0x02] = 0xE181 ∧ crc16 [0x02, 0x01] = 0x10C1 ∧
    crc16 [0x31, 0x32, 0x33, 0x34, 0x35, 0x36, 0x37, 0x38, 0x39] = 0x4B37 := by decide +kernel

/-- V16, V17. -/
theorem test_builders :
    buildAssign 0xF7 = [0x00, 0x06, 0x00, 0x20, 0x00, 0xF7, 0xC8, 0x57] ∧
    buildRead 0x80 = [0x80, 0x04, 0x00, 0x00, 0x00, 0x10, 0xEF, 0xD7] := by decide +kernel

/-- The read reply of V3. -/
def replyV3 : List Byte :=
  [0x05, 0x04, 0x20, 0xC0, 0x3F, 0x00, 0x00, 0x10, 0x40, 0x00, 0x00, 0x00, 0x00, 0x00, 0x00, 0x70, 0xC0, 0x00, 0x00] ++
  [0x20, 0x41, 0x00, 0x00, 0x30, 0x41, 0x00, 0x00, 0x40, 0x41, 0x00, 0x00, 0x50, 0x41, 0x00, 0x00, 0x00, 0x85]

/-- The values of V3. -/
def measV3 : MeasSet where
  fuelLevel := 0x3FC00000
  waterLevel := 0x40100000
  fuelAvgTemp := 0x00000000
  pointTempA := 0xC0700000
  pointTempB := 0x41200000
  pointTempC := 0x41300000
  pointTempD := 0x41400000
  pointTempE := 0x41500000

/-- V20, V21, V22, V24, V27, V28, V29c to V29i. -/
theorem test_parse_discovery :
    parse defaultParams .discover 0x00 [0x00, 0x04, 0x01, 0x05, 0x80, 0x76] = .valid (.discover 5) ∧
    parse defaultParams .discover 0x00 [0x00, 0x04, 0x02, 0x05, 0x01, 0x46, 0x60] = .valid (.discover 0x105) ∧
    parse defaultParams .discover 0x00 [0x00, 0x04, 0x00, 0x73, 0x00] = .valid (.discover 0) ∧
    parse defaultParams .discover 0x00 [0x00, 0x04, 0x04, 0x78, 0x56, 0x34, 0x12, 0x85, 0x39] =
      .valid (.discover 0x12345678) ∧
    parse defaultParams .discover 0x00 [0x09, 0x04, 0x01, 0x05, 0x83, 0xEA] = .unexpected ∧
    parse defaultParams .discover 0x00 [0x00, 0x06, 0x01, 0x05, 0x21, 0xB6] = .malformed ∧
    parse defaultParams .discover 0x00 [] = .malformed ∧
    parse defaultParams .discover 0x00 [0x00, 0x04, 0xFF, 0x05, 0x80, 0x76] = .malformed ∧
    parse defaultParams .discover 0x00 [0x00, 0x04, 0x00, 0x05, 0x80, 0x76] = .checksumMismatch ∧
    parse { defaultParams with strictTrail := true } .discover 0x00 [0x00, 0x04, 0x00, 0x05, 0x80, 0x76] =
      .malformed := by decide +kernel

/-- V30b, V30c, V31a, V31b, V31d, V32a, V32b, V32c, V32d. -/
theorem test_parse_assignment :
    parse defaultParams .assign 0x00 [0x00, 0x06, 0x00, 0x20, 0x00, 0x09, 0x49, 0xD7] = .valid (.assign 0x09) ∧
    parse defaultParams .assign 0x00 [0x00, 0x06, 0x00, 0x20, 0x12, 0x07, 0xC4, 0xB3] = .valid (.assign 0x07) ∧
    parse defaultParams .assign 0x00 [0x00, 0x06, 0x00, 0x21, 0x00, 0x07, 0x66, 0xD3] = .malformed ∧
    parse defaultParams .assign 0x00 [0x00, 0x06, 0x20, 0x00, 0x00, 0x07, 0xC2, 0x19] = .malformed ∧
    parse defaultParams .assign 0x00 [0x00, 0x06, 0x00, 0x20, 0x00, 0x07, 0xC8] = .malformed ∧
    parse defaultParams .assign 0x00 [0x00, 0x06, 0x00, 0x20, 0x01, 0x07, 0xC8, 0x13] = .checksumMismatch ∧
    parse defaultParams .assign 0x00 [0x07, 0x06, 0x00, 0x20, 0x00, 0x07, 0xC9, 0xA4] = .unexpected ∧
    parse defaultParams .assign 0x05 [0x05, 0x06, 0x00, 0x20, 0x00, 0x07, 0xC8, 0x46] = .unexpected ∧
    parse defaultParams .assign 0x00 [0x00, 0x06, 0x00, 0x20, 0x00, 0x07, 0xC8, 0x13, 0x00] =
      .valid (.assign 0x07) := by decide +kernel

/-- V3, V35a, V36a, V36d, V37b, V37c, V38. -/
theorem test_parse_read :
    parse defaultParams .read 0x05 replyV3 = .valid (.read measV3) ∧
    parse defaultParams .read 0x00 replyV3 = .unexpected ∧
    parse defaultParams .read 0x05 ([0x05, 0x04, 0x1C] ++ (replyV3.drop 3).take 28 ++ [0x02, 0xA9]) = .malformed ∧
    parse defaultParams .read 0x05 [0x05, 0x04, 0x00, 0x63, 0x01] = .malformed ∧
    parse defaultParams .read 0x05 [0x09, 0x04, 0x20, 0x00] = .malformed ∧
    parse defaultParams .read 0x05 [0x09, 0x04, 0x20, 0x00, 0x00] = .unexpected ∧
    parse defaultParams .read 0x05 (replyV3.set 10 0x80) = .checksumMismatch := by decide +kernel

/-- V40: the order of the float bytes, four distinct bytes (V41) and the gloss's order as a parameter. -/
theorem test_float_order :
    floatBits defaultParams.floatPerm 0x34 0x12 0x78 0x56 = 0x12345678 ∧
    floatBits { m0 := 3, m1 := 2, m2 := 1, m3 := 0 } 0x3F 0xC0 0x00 0x00 = 0x3FC00000 := by decide +kernel

/-! ### Operations, one step each -/

/-- A small state: everything as after reset but for what a test sets. -/
def st (addr : Byte) (k : Option Kind) (reply : List Byte) : State :=
  { State.reset.setRx reply with addr := addr, reqKind := k, reqArg := 0x07, meas := { measV3 with fuelLevel := 1 } }

/-- What a test looks at in a next state. -/
def seen {α : Type} (o : Host.Outcome State Fault Refusal) (f : State → α) : Option α :=
  match o with
  | .next t => some (f t)
  | .fault _ => none
  | .refused _ => none

/-- R105. -/
theorem test_crcInit : seen (exec .crcInit { State.reset with crc := 0x1234 }) (·.crc) = some 0xFFFF := by decide +kernel

/-- V13: from an arbitrary `CRC`. -/
theorem test_crcUpd : seen (exec (.crcUpd 0x56) { State.reset with crc := 0x1234 }) (·.crc) = some 0xE993 := by
  decide +kernel

/-- V15. -/
theorem test_reqDisc : seen (exec .reqDisc (st 0x05 none [])) (fun t => (t.txBytes 8, t.txLen, t.reqKind, t.addr)) =
    some ([0x00, 0x04, 0x00, 0x20, 0x00, 0x01, 0x31, 0xD1], 8, some .discover, 0x05) := by decide +kernel

/-- V16. -/
theorem test_reqAssign : seen (exec (.reqAssign 0x2A) (st 0x05 none [])) (fun t => (t.txBytes 8, t.reqArg, t.addr)) =
    some ([0x00, 0x06, 0x00, 0x20, 0x00, 0x2A, 0x08, 0x0E], 0x2A, 0x05) := by decide +kernel

/-- V17. -/
theorem test_reqRead : seen (exec .reqRead (st 0xFF none [])) (fun t => (t.txBytes 8, t.reqKind, t.outcome)) =
    some ([0xFF, 0x04, 0x00, 0x00, 0x00, 0x10, 0xE4, 0x18], some .read, .none) := by decide +kernel

/-- V18: an outstanding discovery is cancelled. -/
theorem test_reqRead_without_an_address : seen (exec .reqRead { st 0x00 (some .discover) [] with txLen := 8 })
    (fun t => (t.outcome, t.outKind, t.txLen, t.reqKind)) = some (.noAddressAssigned, some .read, 0, none) := by
  decide +kernel

/-- V5, V42, V44: a two-byte discovery value, `ADDR` read before the commit. -/
theorem test_rspParse_discovery : seen (exec .rspParse (st 0x07 (some .discover) [0x00, 0x04, 0x02, 0x05, 0x01, 0x46, 0x60]))
    (fun t => (t.outcome, t.outKind, t.reqKind, t.discVal, t.addr)) =
    some (.valid, some .discover, none, 0x105, 0x05) := by decide +kernel

/-- V30b: the reply reports 9, the request was 7. -/
theorem test_rspParse_assignment : seen (exec .rspParse (st 0x00 (some .assign) [0x00, 0x06, 0x00, 0x20, 0x00, 0x09, 0x49, 0xD7]))
    (fun t => (t.outcome, t.asgVal, t.addr)) = some (.valid, 0x09, 0x07) := by decide +kernel

/-- V45. -/
theorem test_reset : seen (exec .reset { st 0x05 (some .read) replyV3 with measValid := true, crc := 0x4B37 })
    (fun t => (t.addr, t.measValid, t.crc, t.reqKind)) = some (0x00, false, 0xFFFF, none) := by decide +kernel

/-- V45, the buffers. -/
theorem test_reset_buffers : seen (exec .reset { st 0x05 (some .read) replyV3 with txLen := 8 })
    (fun t => (t.txLen, t.rxLen, Memory.read t.rxbuf 0)) = some (0, 0, none) := by decide +kernel

/-- R121, R122, R123 (V17, the function's value at a = 0; the checksum bytes are the builder's). -/
theorem test_request_rows :
    seen (exec .frameReqDisc State.reset) (·.answer) = some (.bytes [0x00, 0x04, 0x00, 0x20, 0x00, 0x01, 0x31, 0xD1]) ∧
    seen (exec (.frameReqAssign 0x07 0xC8 0x13) State.reset) (·.answer) =
      some (.bytes [0x00, 0x06, 0x00, 0x20, 0x00, 0x07, 0xC8, 0x13]) ∧
    seen (exec (.frameReqRead 0x00 0x00 0x00) State.reset) (·.answer) =
      some (.bytes [0x00, 0x04, 0x00, 0x00, 0x00, 0x10, 0xF0, 0x17]) := by decide +kernel

/-- V3, V20, V32: a reply row stores its bytes and its parse is the answer. -/
theorem test_reply_rows :
    seen (exec (.frameRspRead 0x05 ((replyV3.drop 3).take 32) 0x00 0x85) (st 0x05 none [])) (fun t => (t.rxBytes, t.answer)) =
      some (replyV3, .parsed (.valid (.read measV3))) ∧
    seen (exec (.frameRspDisc [0x05] 0x80 0x76) State.reset) (fun t => (t.rxBytes, t.answer, t.addr)) =
      some ([0x00, 0x04, 0x01, 0x05, 0x80, 0x76], .parsed (.valid (.discover 5)), 0x00) ∧
    seen (exec (.frameRspAssign 0x00 0x08 0xC8 0x13) State.reset) (fun t => (t.rxBytes, t.answer)) =
      some ([0x00, 0x06, 0x00, 0x20, 0x00, 0x08, 0xC8, 0x13], .parsed .checksumMismatch) := by decide +kernel

/-- V46: what is not admitted. -/
theorem test_not_admitted :
    exec .rspParse State.reset = .refused .parseWithoutRequest ∧
    perform (.read (.meas 0)) State.reset = .refused .measAbsent ∧
    perform (.rx (List.replicate 261 0)) State.reset = .refused .countAboveRxCap := by
  refine ⟨rfl, rfl, ?_⟩
  have h : ¬ (List.replicate 261 (0 : Byte)).length ≤ State.reset.params.rxCap := by decide +kernel
  simp only [perform, hostRx, if_neg h]

/-- P2 step 4 and P5 step 3: what the host stores and is given. -/
theorem test_host_rx_and_tx :
    seen (perform (.rx [0x00, 0x04]) (st 0x00 none [0x01, 0x02, 0x03])) (fun t => (t.rxLen, t.readRx 0, t.readRx 2)) =
      some (2, 0x00, 0x03) ∧
    seen (perform .tx State.reset) (·.answer) = some (.bytes []) := by decide +kernel

/-- A presented table word is run by the very next step. -/
theorem test_step_runs_the_word :
    seen (step (State.reset.withFetchWord 16 0x507)) (fun t => (t.reqArg, t.reqKind, t.inbox)) =
      some (0x07, some .assign, []) := by decide +kernel

/-- What a call returns. -/
def returned {β : Type} (o : Host.Outcome (β × State) Fault Refusal) : Option β :=
  match o with
  | .next t => some t.1
  | .fault _ => none
  | .refused _ => none

/-- P1: `checksum` of "123456789". -/
theorem test_checksum :
    returned (checksum [0x31, 0x32, 0x33, 0x34, 0x35, 0x36, 0x37, 0x38, 0x39] State.reset) = some 0x4B37 := by
  decide +kernel

/-- P2, and its failure with a wrong checksum (V20's bytes, one changed). -/
theorem test_discoverAddress :
    returned (discoverAddress [0x00, 0x04, 0x01, 0x05, 0x80, 0x76] State.reset) = some (.ok 0x05) ∧
    returned (discoverAddress [0x00, 0x04, 0x01, 0x06, 0x80, 0x76] State.reset) = some (.error .checksumMismatch) := by
  decide +kernel

/-- P3, and V31a's reply. -/
theorem test_assignAddress :
    returned (assignAddress 0x07 [0x00, 0x06, 0x00, 0x20, 0x00, 0x07, 0xC8, 0x13] (st 0x05 none [])) = some (.ok ()) ∧
    returned (assignAddress 0x07 [0x00, 0x06, 0x00, 0x21, 0x00, 0x07, 0x66, 0xD3] (st 0x05 none [])) =
      some (.error .malformed) := by decide +kernel

/-- P4, P5, and P6 step 6. -/
theorem test_readMeasurements :
    returned (readMeasurements replyV3 (st 0x05 none [])) = some (.ok measV3) ∧
    returned (readMeasurements replyV3 State.reset) = some (.error .noAddressAssigned) ∧
    returned (readMeasurements [0x05, 0x04, 0x20, 0xC0, 0x3F] (st 0x05 none [])) = some (.error .malformed) := by
  decide +kernel

/-! ### Witnesses: a concrete case for the hypotheses of each statement -/

theorem witness_decodeOfEncode :
    (Instr.frameReqAssign 0x07 0xC8 0x13).wellFormed = true ∧ (Instr.frameReqRead 0x05 0xF0 0x42).wellFormed = true ∧
    (Instr.frameRspRead 0xFF (List.replicate 32 0) 0x00 0x00).wellFormed = true ∧
    (Instr.frameRspDisc (List.replicate 255 0) 0x00 0x00).wellFormed = true := by decide +kernel

theorem witness_encodeOfDecode : decode (.command 0x5FF) = .ok (.reqAssign 0xFF) := by decide +kernel

theorem witness_reserved :
    (State.reset.setInbox [.issue (.command 0xE00)]).inbox = .issue (.command 0xE00) :: [] ∧
    reservedWord 0x000 ∧ reservedWord 0xE00 ∧ reservedWord 0xEFF ∧ reservedWord 0x101 ∧ reservedWord 0xFFF := by
  unfold reservedWord; decide +kernel

theorem witness_stepRuns :
    (State.reset.setInbox [.issue (.command 0x600)]).inbox = .issue (.command 0x600) :: [] ∧
    decode (.command 0x600) = .ok .reqRead ∧ decodeTableWord 16 0x600 = some .reqRead := by decide +kernel

theorem witness_waits : State.reset.inbox = [] := rfl

theorem witness_oneChangedByte : (0x01 : Byte) ≠ 0x02 := by decide

theorem witness_onlyTheCrcUnit : ∃ t, exec .reqDisc State.reset = .next t ∧ Instr.reqDisc ≠ .crcInit ∧
    (∀ b, Instr.reqDisc ≠ .crcUpd b) ∧ Instr.reqDisc ≠ .reset := ⟨_, rfl, by simp, by simp, by simp⟩

theorem witness_builtFrames : ∃ n, buildAssign 0xFF = buildAssign n := ⟨0xFF, rfl⟩

theorem witness_reqRead : (st 0xFF none []).addr ≠ 0x00 ∧ (st 0x01 none []).addr ≠ 0x00 ∧ State.reset.addr = 0x00 := by
  decide +kernel

/-- V29b, V37c: rows 1 and 2 of R154's table. -/
theorem witness_outcomes_one_and_two :
    tooShort .discover [0x00, 0x04, 0x00, 0xFF] ∧
    (¬ tooShort .read [0x09, 0x04, 0x20, 0x00, 0x00] ∧ firstByteWrong .read 0x05 [0x09, 0x04, 0x20, 0x00, 0x00]) := by
  simp only [tooShort, firstByteWrong]
  decide +kernel

/-- V29: row 3. -/
theorem witness_outcome_three :
    ¬ tooShort .discover [0x00, 0x84, 0x02, 0x93, 0x01] ∧ ¬ firstByteWrong .discover 0x00 [0x00, 0x84, 0x02, 0x93, 0x01] ∧
      structureWrong defaultParams .discover [0x00, 0x84, 0x02, 0x93, 0x01] := by
  simp only [tooShort, firstByteWrong, structureWrong, frameEnd]
  decide +kernel

/-- V20 with another data byte, and V20: rows 4 and 5. -/
theorem witness_outcomes_four_and_five :
    ¬ tooShort .discover [0x00, 0x04, 0x01, 0x06, 0x80, 0x76] ∧
    ¬ tooShort .discover [0x00, 0x04, 0x01, 0x05, 0x80, 0x76] ∧
    ¬ firstByteWrong .discover 0x00 [0x00, 0x04, 0x01, 0x06, 0x80, 0x76] ∧
    ¬ firstByteWrong .discover 0x00 [0x00, 0x04, 0x01, 0x05, 0x80, 0x76] := by
  simp only [tooShort, firstByteWrong]
  decide +kernel

theorem witness_structure_of_four_and_five :
    ¬ structureWrong defaultParams .discover [0x00, 0x04, 0x01, 0x06, 0x80, 0x76] ∧
    ¬ structureWrong defaultParams .discover [0x00, 0x04, 0x01, 0x05, 0x80, 0x76] := by
  simp only [structureWrong, frameEnd]
  decide +kernel

theorem witness_checksum_of_four_and_five :
    checksumWrong .discover [0x00, 0x04, 0x01, 0x06, 0x80, 0x76] ∧
    ¬ checksumWrong .discover [0x00, 0x04, 0x01, 0x05, 0x80, 0x76] := by
  simp only [checksumWrong, frameEnd]
  decide +kernel

/-- V3 under the default order and under the gloss's order (C1): both are `Valid`. -/
theorem witness_readReply :
    parse defaultParams .read 0x05 replyV3 = .valid (.read measV3) ∧
    (match parse { defaultParams with floatPerm := { m0 := 3, m1 := 2, m2 := 1, m3 := 0 } } .read 0x05 replyV3 with
      | .valid (.read m) => m.get 0 == 0xC03F0000 && m.get 7 == 0x50410000
      | _ => false) = true ∧ (0x05 : Byte) ≠ 0x00 := by decide +kernel

theorem witness_discoveryReply : (List.replicate 255 (0xFF : Byte)).length ≤ 255 ∧ ([] : List Byte).length ≤ 255 := by
  decide +kernel

theorem witness_trailing :
    parse defaultParams .discover 0x00 [0x00, 0x04, 0x01, 0x05, 0x80, 0x76] = .valid (.discover 5) ∧
    parse { defaultParams with strictTrail := true } .discover 0x00 [0x00, 0x04, 0x01, 0x05, 0x80, 0x76] =
      .valid (.discover 5) ∧ ([0xAA, 0xBB] : List Byte) ≠ [] := by decide +kernel

theorem witness_corruptedRead :
    defaultParams.strictTrail = false ∧ parse defaultParams .read 0x05 replyV3 = .valid (.read measV3) ∧
    replyV3.length = 37 ∧ (0x00 : Byte) ≠ byteAt replyV3 0 ∧ (0x24 : Byte) ≠ byteAt replyV3 2 ∧
    (0xC1 : Byte) ≠ byteAt replyV3 3 ∧
    (0x84 : Byte) ≠ byteAt replyV3 36 := by decide +kernel

theorem witness_corruptedAssignment :
    parse defaultParams .assign 0x05 [0x00, 0x06, 0x00, 0x20, 0x00, 0x07, 0xC8, 0x13] = .valid (.assign 0x07) ∧
    [0x00, 0x06, 0x00, 0x20, 0x00, 0x07, 0xC8, (0x13 : Byte)].length = 8 ∧ (0x05 : Byte) ≠ 0x00 ∧
    (0x21 : Byte) ≠ 0x20 ∧ (0x01 : Byte) ≠ 0x00 := by decide +kernel

theorem witness_corruptedDiscovery :
    parse defaultParams .discover 0x05 [0x00, 0x04, 0x01, 0x05, 0x80, 0x76] = .valid (.discover 5) ∧
    [0x00, 0x04, 0x01, 0x05, 0x80, (0x76 : Byte)].length =
      3 + (byteAt [0x00, 0x04, 0x01, 0x05, 0x80, 0x76] 2).toNat + 2 ∧
    (byteAt [0x00, 0x04, 0x01, 0x05, 0x80, 0x76] 2).toNat < (0x02 : Byte).toNat ∧
    (0x77 : Byte) ≠ byteAt [0x00, 0x04, 0x01, 0x05, 0x80, 0x76] 5 := by decide +kernel

theorem witness_rspParse :
    State.reset.reqKind = none ∧
    ((st 0x05 (some .read) (List.replicate 261 0)).reqKind ≠ none ∧
      (st 0x05 (some .read) (List.replicate 261 0)).params.rxCap < (st 0x05 (some .read) (List.replicate 261 0)).rxLen) ∧
    ((st 0x05 (some .read) (List.replicate 260 0)).reqKind = some .read ∧
      (st 0x05 (some .read) (List.replicate 260 0)).rxLen ≤ (st 0x05 (some .read) (List.replicate 260 0)).params.rxCap) := by
  decide +kernel

theorem witness_failedParse : ∃ t, exec .rspParse (st 0x05 (some .read) []) = .next t ∧ t.outcome ≠ .valid :=
  ⟨_, rfl, by decide +kernel⟩

/-- One outcome of each failure, and a state that keeps it over an instruction other than `RSP.PARSE`. -/
theorem witness_causes :
    seen (exec .rspParse (st 0x05 (some .assign) [0x00, 0x06, 0x00, 0x20, 0x01, 0x07, 0xC8, 0x13])) (·.outcome) =
      some .checksumMismatch ∧
    seen (exec .rspParse (st 0x05 (some .assign) [0x05, 0x06, 0x00, 0x20, 0x00, 0x07, 0xC8, 0x46])) (·.outcome) =
      some .unexpected ∧
    seen (exec .rspParse (st 0x05 (some .read) [0x05, 0x04, 0x00, 0x63, 0x01])) (·.outcome) = some .malformed ∧
    seen (exec (.crcUpd 0x31) { State.reset with outcome := .malformed }) (·.outcome) = some .malformed ∧
    seen (exec .crcInit { State.reset with outcome := .noAddressAssigned }) (·.outcome) = some .noAddressAssigned := by
  decide +kernel

theorem witness_discovery : ∃ t, (st 0x00 (some .discover) [0x00, 0x04, 0x01, 0x05, 0x80, 0x76]).reqKind = some .discover ∧
    exec .rspParse (st 0x00 (some .discover) [0x00, 0x04, 0x01, 0x05, 0x80, 0x76]) = .next t ∧ t.outcome = .valid :=
  ⟨_, rfl, rfl, by decide +kernel⟩

/-- The count 0 (V22). -/
theorem witness_discovery_empty : ∃ t, exec .rspParse (st 0x05 (some .discover) [0x00, 0x04, 0x00, 0x73, 0x00]) = .next t ∧
    t.outcome = .valid ∧ byteAt (st 0x05 (some .discover) [0x00, 0x04, 0x00, 0x73, 0x00]).rxBytes 2 = 0x00 :=
  ⟨_, rfl, by decide +kernel, by decide +kernel⟩

theorem witness_assignment : ∃ t,
    exec .rspParse (st 0x00 (some .assign) [0x00, 0x06, 0x00, 0x20, 0x00, 0x09, 0x49, 0xD7]) = .next t ∧ t.outcome = .valid :=
  ⟨_, rfl, by decide +kernel⟩

theorem witness_reset : ∃ t, exec .reset (st 0x05 none []) = .next t := ⟨_, rfl⟩

theorem witness_replyRows :
    ([0x05, 0x04, 0x20] ++ List.replicate 32 (0x00 : Byte) ++ [0x00, 0x00]).length ≤ State.reset.params.rxCap ∧
    ([0x00, 0x04, 0xFF] ++ List.replicate 255 (0x00 : Byte) ++ [0x00, 0x00]).length ≤ State.reset.params.rxCap ∧
    [0x00, 0x06, 0x00, 0x20, 0x00, 0x07, 0xC8, (0x13 : Byte)].length ≤ State.reset.params.rxCap := by decide +kernel

theorem witness_arrivedRead :
    (st 0x05 (some .read) []).reqKind = some .read ∧ (st 0x05 (some .read) []).addr ≠ 0x00 ∧
    37 ≤ (st 0x05 (some .read) []).params.rxCap ∧
    (st 0x05 (some .read) []).params.floatPerm = defaultParams.floatPerm ∧ (wireSet measV3).length = 32 ∧
    le16 0x00 0x85 = crc16 ([(st 0x05 (some .read) []).addr, 0x04, 0x20] ++ wireSet measV3) := by decide +kernel

theorem witness_hostRx : (List.replicate 260 (0 : Byte)).length ≤ State.reset.params.rxCap ∧
    State.reset.params.rxCap < (List.replicate 261 (0 : Byte)).length := by decide +kernel

theorem witness_hostReads : (∃ t, perform .tx State.reset = .next t) ∧ ∃ t, perform (.read .crc) State.reset = .next t :=
  ⟨⟨_, rfl⟩, ⟨_, rfl⟩⟩

theorem witness_hostWrites : (∀ i, HostReg.addr ≠ .rxbuf i) ∧ HostReg.addr ≠ .rxLen ∧
    259 < State.reset.params.rxCap ∧ State.reset.params.rxCap ≤ 260 :=
  ⟨by simp, by simp, by decide, by decide⟩

/-- R57, R181: single writes at the last index and at the largest count. -/
theorem test_host_writes :
    seen (perform (.write (.rxbuf 259) 0x1FF) (st 0x00 none [0x01])) (fun t => (t.readRx 259, t.readRx 0, t.rxLen)) =
      some (0xFF, 0x01, 1) ∧
    seen (perform (.write .rxLen 260) (st 0x00 none [0x01])) (fun t => (t.readRx 0, t.rxLen)) = some (0x01, 260) := by
  decide +kernel

/-- R23, R31, R32: the codes that a host reads. -/
theorem test_host_reads_codes :
    seen (perform (.read .reqKind) (st 0x00 (some .read) [])) (·.answer) = some (.value 3) ∧
    seen (perform (.read .outcome) { State.reset with outcome := .noAddressAssigned }) (·.answer) = some (.value 5) := by
  decide +kernel

/-- R50, log 7 and log 9: reads at the last index of each buffer and at the first that does not exist, with `TX_LEN`
= 0. -/
theorem test_host_reads_at_the_edges :
    seen (perform (.read (.txbuf 7)) { State.reset.setTx buildDiscover with txLen := 0 }) (·.answer) =
      some (.value 0xD1) ∧
    seen (perform (.read (.rxbuf 259)) (State.reset.setRxByte 259 0xA5)) (·.answer) = some (.value 0xA5) ∧
    perform (.read (.txbuf 8)) State.reset = .fault (.noSuchByte 8) ∧
    perform (.read (.rxbuf 260)) State.reset = .fault (.noSuchByte 260) :=
  ⟨by decide +kernel, by decide +kernel, rfl, rfl⟩

/-- Log 7: `REQ_ARG` while no request is outstanding. -/
theorem test_host_reads_reqArg : seen (perform (.read .reqArg) (st 0x00 none [])) (·.answer) = some (.value 0x07) := by
  decide +kernel

/-- R184: the same frame again after the parse, and nothing after reset. -/
theorem witness_hostTx : (State.reset.setTx buildDiscover).txLen = 8 ∧
    (State.reset.setTx buildDiscover).reqKind = none ∧ State.reset.txLen = 0 := by decide +kernel

/-- The step and the block's step with its arguments, one act. -/
theorem witness_blockStep :
    (State.reset.setInbox [.issue (.command 0x4FF), .tx]).inbox = .issue (.command 0x4FF) :: [.tx] ∧
    blockStep defaultParams 0 (.issue (.command 0x4FF)) State.reset.toBlock = .refused (.reservedCommand 0x4FF) :=
  ⟨rfl, rfl⟩

/-- A state with an outstanding discovery meets the invariant. -/
theorem witness_invariant : Inv (State.reset.setTx buildDiscover |>.setReqKind (some .discover)) ∧
    (State.reset.setTx buildDiscover |>.setReqKind (some .discover)).reqKind = some .discover := by
  refine ⟨⟨⟨by decide +kernel, by decide +kernel, rfl, rfl⟩,
    ⟨by decide, .inr rfl, by decide, (Config.freeDiscVal 0).isLt⟩, ?_, ?_⟩, rfl⟩
  · intro k hk
    cases hk
    exact ⟨rfl, rfl, by decide +kernel, by simp⟩
  · refine ⟨?_, ?_, ?_, ?_, ?_⟩ <;> intro h
    · exact absurd rfl h
    all_goals exact absurd h (by decide +kernel)

theorem witness_invariantStep : ∃ t,
    step (State.reset.setTx buildDiscover |>.setReqKind (some .discover)) = .next t := ⟨_, rfl⟩

/-- A step that changes `ADDR`. -/
theorem witness_addressChanges : ∃ t,
    step ((st 0x07 (some .discover) [0x00, 0x04, 0x01, 0x05, 0x80, 0x76]).setInbox [.issue (.command 0x800)]) = .next t ∧
    t.addr ≠ ((st 0x07 (some .discover) [0x00, 0x04, 0x01, 0x05, 0x80, 0x76]).setInbox [.issue (.command 0x800)]).addr :=
  ⟨_, rfl, by decide +kernel⟩

/-- A step that changes the measurements. -/
theorem witness_measurementsChange : ∃ t,
    step ((st 0x05 (some .read) replyV3).setInbox [.issue (.command 0x800)]) = .next t ∧
    t.meas ≠ ((st 0x05 (some .read) replyV3).setInbox [.issue (.command 0x800)]).meas :=
  ⟨_, rfl, by decide +kernel⟩

theorem witness_receiveBuffer : ∃ t, isOperation .reqDisc = true ∧ Instr.reqDisc ≠ .reset ∧
    exec .reqDisc (st 0x05 none replyV3) = .next t := ⟨_, rfl, by simp, rfl⟩

theorem witness_transitions : ∃ t, exec (.crcUpd 0x31) (st 0x05 (some .read) []) = .next t := ⟨_, rfl⟩

theorem witness_parameters : ∃ t, step State.reset = .next t := ⟨_, rfl⟩

theorem witness_ranges : RangesOk (State.reset.setTx buildDiscover) :=
  ⟨by decide, .inr rfl, by decide, (Config.freeDiscVal 0).isLt⟩

/-- Each kind has a `Valid` reply and a failing one. -/
theorem witness_exchangeReplies :
    parse State.reset.params .discover State.reset.addr [0x00, 0x04, 0x01, 0x05, 0x80, 0x76, 0xAA] =
      .valid (.discover 5) ∧
    parse State.reset.params .discover State.reset.addr [0x00, 0x04, 0x01, 0x05, 0x80, 0x76] = .valid (.discover 5) ∧
    parse State.reset.params .assign State.reset.addr [0x00, 0x06, 0x00, 0x20, 0x12, 0x07, 0xC4, 0xB3] =
      .valid (.assign 0x07) ∧
    parse (st 0x05 none []).params .read (st 0x05 none []).addr replyV3 = .valid (.read measV3) ∧
    failsWith (parse State.reset.params .discover State.reset.addr []) .malformed ∧
    failsWith (parse (st 0x05 none []).params .read (st 0x05 none []).addr (replyV3.set 3 0xC1)) .checksumMismatch ∧
    failsWith (parse State.reset.params .assign State.reset.addr [0x07, 0x06, 0x00, 0x20, 0x00, 0x07, 0xC9, 0xA4])
      .unexpected :=
  ⟨by decide +kernel, by decide +kernel, by decide +kernel, by decide +kernel, .inr (.inl ⟨by decide +kernel, rfl⟩),
    .inl ⟨by decide +kernel, rfl⟩, .inr (.inr ⟨by decide +kernel, rfl⟩)⟩

theorem witness_exchanges : (List.replicate 255 (0 : Byte)).length + 5 ≤ State.reset.params.rxCap ∧ 8 ≤ State.reset.params.rxCap ∧
    State.reset.addr = 0x00 ∧ (st 0x05 none []).addr ≠ 0x00 ∧
    ([0x05] : List Byte).length + 5 ≤ ({ defaultParams with rxCap := 37 } : Params).rxCap ∧ replyV3.length ≤ (st 0x05 none []).params.rxCap := by
  decide +kernel

end Sys2Proof.Tests
end

/-! The statements of 10_state.md: the invariant, what each register changes at, and the step against the block's
step. The lemmas come first, each obligation's theorem is assembled from them. -/

namespace Sys2Proof.Machine

open Sys2Proof.Claims

/-! ### What `RSP.PARSE` leaves alone, whatever the result -/

/-- R155 to R157: a finished parse ends the request and touches neither the accumulator, nor the receive buffer, nor
the parameters, the acts to come and the number of the free values. -/
@[simp] theorem State.finishParse_frame (s : State) (k : Kind) (r : ParseResult) :
    (s.finishParse k r).reqKind = none ∧ (s.finishParse k r).crc = s.crc ∧
      (s.finishParse k r).rxbuf = s.rxbuf ∧ (s.finishParse k r).rxLen = s.rxLen ∧
      (s.finishParse k r).params = s.params ∧ (s.finishParse k r).inbox = s.inbox ∧
      (s.finishParse k r).epoch = s.epoch := by
  cases r with
  | valid p => cases p <;> exact ⟨rfl, rfl, rfl, rfl, rfl, rfl, rfl⟩
  | checksumMismatch => exact ⟨rfl, rfl, rfl, rfl, rfl, rfl, rfl⟩
  | malformed => exact ⟨rfl, rfl, rfl, rfl, rfl, rfl, rfl⟩
  | unexpected => exact ⟨rfl, rfl, rfl, rfl, rfl, rfl, rfl⟩

/-- R156, R227: a finished parse moves `ADDR` only on a `Valid` result of kind `Discover` or `Assign`. -/
theorem State.finishParse_addr_eq_or (s : State) (k : Kind) (p : Params) (A : Byte) (B : List Byte) :
    (s.finishParse k (parse p k A B)).addr = s.addr ∨
      ((s.finishParse k (parse p k A B)).outcome = .valid ∧ (k = .discover ∨ k = .assign)) := by
  rcases finishParse_cases s k p A B with ⟨o, -, -, -, heq⟩ | ⟨hk, heq⟩ | ⟨hk, heq⟩ | ⟨-, heq⟩ <;> rw [heq]
  · exact .inl rfl
  · exact .inr ⟨rfl, .inl hk⟩
  · exact .inr ⟨rfl, .inr hk⟩
  · exact .inl rfl

/-- R156, R157: a finished parse leaves the measurements, or it is a `Valid` read and they are the reply's. -/
theorem State.finishParse_meas_eq_or (s : State) (k : Kind) (p : Params) (A : Byte) (B : List Byte) :
    let t := s.finishParse k (parse p k A B)
    (t.meas = s.meas ∧ t.measValid = s.measValid) ∨
      (k = .read ∧ t.outcome = .valid ∧ t.measValid = true ∧ parse p .read A B = .valid (.read t.meas)) := by
  cases hres : parse p k A B with
  | valid pl =>
    rcases parse_valid hres with ⟨rfl, rfl⟩ | ⟨rfl, rfl⟩ | ⟨rfl, rfl⟩
    · exact .inl ⟨rfl, rfl⟩
    · exact .inl ⟨rfl, rfl⟩
    · exact .inr ⟨rfl, rfl, rfl, hres⟩
  | checksumMismatch => exact .inl ⟨rfl, rfl⟩
  | malformed => exact .inl ⟨rfl, rfl⟩
  | unexpected => exact .inl ⟨rfl, rfl⟩

/-! ### The invariant, part by part -/

theorem freeDiscVal_toNat_lt (epoch : Nat) : (Config.freeDiscVal epoch).toNat < 2 ^ discWidth :=
  BitVec.isLt (w := discWidth) _

/-- With no request outstanding nothing is asked of `TXBUF`. -/
theorem RequestOk.of_reqKind_none {s : State} (h : s.reqKind = none) : RequestOk s := by
  intro k hk
  rw [h] at hk
  cases hk

/-- Before a result stands in `OUTCOME` nothing is asked of what goes with one. -/
theorem OutcomeOk.of_outcome_none {s : State} (h : s.outcome = .none) : OutcomeOk s := by
  simp [OutcomeOk, h]

/-- R38, R180: the empty buffers and reset values satisfy the invariant, whatever the unspecified items hold. -/
theorem Inv.of_reset_values {s : State} (hcap : 37 ≤ s.params.rxCap) (htxbuf : s.txbuf = []) (htx : s.txLen = 0)
    (hrxbuf : s.rxbuf = []) (hrx : s.rxLen = 0) (hdisc : s.discVal < 2 ^ discWidth) (hreq : s.reqKind = none)
    (hout : s.outcome = .none) : Inv s := by
  have hbuf : BuffersOk s := by simp [BuffersOk, htxbuf, hrxbuf, Memory.wf, Memory.below]
  have hranges : RangesOk s := ⟨hcap, .inl htx, by omega, hdisc⟩
  exact ⟨hbuf, hranges, .of_reqKind_none hreq, .of_outcome_none hout⟩

section
variable {s : State}

/-- `CRC` is in no part of the invariant (R230). -/
theorem Inv.setCrc (h : Inv s) (v : Half) : Inv (s.setCrc v) := h

/-- The model's record of an answer is in no part of the invariant. -/
theorem Inv.setAnswer (h : Inv s) (a : Answer) : Inv (s.setAnswer a) := h

/-- The acts still to come are in no part of the invariant. -/
theorem Inv.setInbox (h : Inv s) (l : List HostAct) : Inv (s.setInbox l) := h

/-- R180: a reset establishes the invariant again. -/
theorem Inv.resetBlock (h : Inv s) : Inv s.resetBlock := by
  obtain ⟨-, ⟨hcap, -⟩, -, -⟩ := h
  exact .of_reset_values hcap rfl rfl rfl rfl (freeDiscVal_toNat_lt _) rfl rfl

/-- R181: bytes that fit the receive buffer keep the invariant. -/
theorem Inv.setRx (h : Inv s) {B : List Byte} (hB : B.length ≤ s.params.rxCap) : Inv (s.setRx B) := by
  obtain ⟨⟨htxwf, htxlt, hrxwf, hrxlt⟩, ⟨hcap, htx, -, hdisc⟩, hreq, hout⟩ := h
  have hbuf : BuffersOk (s.setRx B) :=
    ⟨htxwf, htxlt, Memory.wf_store _ _ _ hrxwf, Memory.below_store _ _ _ _ (by simpa using hB) hrxlt⟩
  exact ⟨hbuf, ⟨hcap, htx, hB, hdisc⟩, hreq, hout⟩

/-- R181: a single write inside the receive buffer keeps the invariant. -/
theorem Inv.setRxByte (h : Inv s) {i : Nat} (hi : i < s.params.rxCap) (b : Byte) : Inv (s.setRxByte i b) := by
  obtain ⟨⟨htxwf, htxlt, hrxwf, hrxlt⟩, hranges, hreq, hout⟩ := h
  have hbuf : BuffersOk (s.setRxByte i b) :=
    ⟨htxwf, htxlt, Memory.wf_write _ _ _ hrxwf, Memory.below_write _ _ _ _ hi hrxlt⟩
  exact ⟨hbuf, hranges, hreq, hout⟩

/-- R26: a count up to `RX_CAP` keeps the invariant. -/
theorem Inv.setRxLen (h : Inv s) {n : Nat} (hn : n ≤ s.params.rxCap) : Inv (s.setRxLen n) := by
  obtain ⟨hbuf, ⟨hcap, htx, -, hdisc⟩, hreq, hout⟩ := h
  exact ⟨hbuf, ⟨hcap, htx, hn, hdisc⟩, hreq, hout⟩

/-- An 8-byte frame that a `REQ.*` has put into `TXBUF` is what stands there (R25). -/
theorem State.txBytes_beginRequest (s : State) (k : Kind) {B : List Byte} (hB : B.length = 8) :
    (s.beginRequest k B).txBytes 8 = B := by
  have hread : ∀ i ∈ List.range 8, (s.beginRequest k B).readTx i = byteAt B i := by
    intro i hi
    rw [State.readTx_beginRequest, if_pos (by simpa [hB] using hi)]
  calc (s.beginRequest k B).txBytes 8 = (List.range B.length).map (byteAt B) := by
        rw [hB]
        exact List.map_congr_left hread
    _ = B := map_byteAt_range B

/-- R125 to R127: beginning a request with its own frame establishes the invariant from canonical buffers and
counts in range; what stood before as request and outcome does not matter. -/
theorem Inv.beginRequest (hbuf : BuffersOk s) (hranges : RangesOk s) (k : Kind)
    (hlen : (requestFrame k s).length = 8) (haddr : k = .read → s.addr ≠ broadcast) :
    Inv (s.beginRequest k (requestFrame k s)) := by
  obtain ⟨htxwf, htxlt, hrxwf, hrxlt⟩ := hbuf
  obtain ⟨hcap, -, hrx, hdisc⟩ := hranges
  have hbuf' : BuffersOk (s.beginRequest k (requestFrame k s)) :=
    ⟨Memory.wf_store _ _ _ htxwf, Memory.below_store _ _ _ _ (by omega) htxlt, hrxwf, hrxlt⟩
  have hreq : RequestOk (s.beginRequest k (requestFrame k s)) := by
    intro k' hk'
    cases hk'
    exact ⟨rfl, rfl, State.txBytes_beginRequest s k hlen, haddr⟩
  exact ⟨hbuf', ⟨hcap, .inr rfl, hrx, hdisc⟩, hreq, .of_outcome_none rfl⟩

/-- R127: `REQ.READ` without an address keeps the invariant: `ADDR` is unknown and there is nothing to send. -/
theorem Inv.noAddressAssigned (h : Inv s) (haddr : s.addr = broadcast) :
    Inv (((s.recordOutcome .noAddressAssigned .read).clearTx).setReqKind none) := by
  obtain ⟨hbuf, ⟨hcap, -, hrx, hdisc⟩, -, -⟩ := h
  exact ⟨hbuf, ⟨hcap, .inl rfl, hrx, hdisc⟩, .of_reqKind_none rfl, by simp [OutcomeOk, haddr]⟩

/-- R155 to R157: a finished parse keeps the invariant: a failure has an outcome that asks for nothing, and each
`Valid` commit writes what its outcome goes with. -/
theorem Inv.finishParse (h : Inv s) (k : Kind) (p : Params) (A : Byte) (B : List Byte) :
    Inv (s.finishParse k (parse p k A B)) := by
  obtain ⟨hbuf, hranges, -, -⟩ := h
  rcases finishParse_cases s k p A B with
    ⟨o, -, hvalid, hnoaddr, heq⟩ | ⟨rfl, heq⟩ | ⟨rfl, heq⟩ | ⟨rfl, heq⟩ <;> rw [heq]
  · exact ⟨hbuf, hranges, .of_reqKind_none rfl, by simp [OutcomeOk, hvalid, hnoaddr]⟩
  · obtain ⟨hcap, htx, hrx, -⟩ := hranges
    exact ⟨hbuf, ⟨hcap, htx, hrx, discValue_lt _ _ (countOf_le B)⟩, .of_reqKind_none rfl, by simp [OutcomeOk]⟩
  · exact ⟨hbuf, hranges, .of_reqKind_none rfl, by simp [OutcomeOk]⟩
  · exact ⟨hbuf, hranges, .of_reqKind_none rfl, by simp [OutcomeOk]⟩

end

/-! ### What every instruction, act and step keeps -/

/-- Every instruction keeps the invariant. -/
theorem Inv.exec {i : Instr} {s t : State} (h : Inv s) (hex : exec i s = .next t) : Inv t := by
  have ⟨hbuf, hranges, _, _⟩ := h
  rcases exec_next hex with ⟨-, rfl⟩ | ⟨b, -, rfl⟩ | ⟨-, rfl⟩ | ⟨n, -, rfl⟩ | ⟨-, haddr, rfl⟩ | ⟨-, haddr, rfl⟩ |
    ⟨k, -, -, -, rfl⟩ | ⟨-, rfl⟩ | ⟨a, rfl⟩ | ⟨B, a, hB, rfl⟩
  · exact h.setCrc _
  · exact h.setCrc _
  · exact .beginRequest hbuf hranges .discover buildDiscover_length (by simp)
  · exact .beginRequest (s := s.setReqArg n) hbuf hranges .assign (buildAssign_length n) (by simp)
  · exact h.noAddressAssigned haddr
  · exact .beginRequest hbuf hranges .read (buildRead_length _) fun _ => haddr
  · exact h.finishParse k _ _ _
  · exact h.resetBlock
  · exact h.setAnswer a
  · exact (h.setRx hB).setAnswer a

/-- Every act of the outside keeps the invariant. -/
theorem Inv.perform {a : HostAct} {s t : State} (h : Inv s) (hp : perform a s = .next t) : Inv t := by
  rcases perform_next hp with ⟨-, rfl⟩ | ⟨c, i, -, -, hex⟩ | ⟨B, -, hB, rfl⟩ | ⟨w, -, rfl⟩ | ⟨i, v, -, hi, rfl⟩ |
    ⟨v, -, hv, rfl⟩
  · exact h.resetBlock
  · exact h.exec hex
  · exact h.setRx hB
  · exact h.setAnswer w
  · exact h.setRxByte hi _
  · exact h.setRxLen hv

/-- No instruction changes the parameters or takes an act (R37). -/
theorem exec_params_inbox {i : Instr} {s t : State} (h : exec i s = .next t) :
    t.params = s.params ∧ t.inbox = s.inbox := by
  rcases exec_next h with ⟨-, rfl⟩ | ⟨b, -, rfl⟩ | ⟨-, rfl⟩ | ⟨n, -, rfl⟩ | ⟨-, -, rfl⟩ | ⟨-, -, rfl⟩ |
    ⟨k, -, -, -, rfl⟩ | ⟨-, rfl⟩ | ⟨a, rfl⟩ | ⟨B, a, -, rfl⟩ <;> simp

/-- No act of the outside changes the parameters or the acts that come after it (R37). -/
theorem perform_params_inbox {a : HostAct} {s t : State} (h : perform a s = .next t) :
    t.params = s.params ∧ t.inbox = s.inbox := by
  rcases perform_next h with ⟨-, rfl⟩ | ⟨c, i, -, -, hex⟩ | ⟨B, -, -, rfl⟩ | ⟨w, -, rfl⟩ | ⟨i, v, -, -, rfl⟩ |
    ⟨v, -, -, rfl⟩
  · simp
  · exact exec_params_inbox hex
  all_goals simp

/-- An instruction is `RESET`, or `RSP.PARSE` with a request outstanding, or it keeps `ADDR` and the
measurements (R21, R27, R28). -/
theorem exec_reset_or_parse_or_keeps {i : Instr} {s t : State} (h : exec i s = .next t) :
    i = .reset ∨
    (i = .rspParse ∧ ∃ k, s.reqKind = some k ∧ t = s.finishParse k (parse s.params k s.addr s.rxBytes)) ∨
    (t.addr = s.addr ∧ t.meas = s.meas ∧ t.measValid = s.measValid) := by
  rcases exec_next h with ⟨-, rfl⟩ | ⟨b, -, rfl⟩ | ⟨-, rfl⟩ | ⟨n, -, rfl⟩ | ⟨-, -, rfl⟩ | ⟨-, -, rfl⟩ |
    ⟨k, rfl, hk, -, rfl⟩ | ⟨rfl, -⟩ | ⟨a, rfl⟩ | ⟨B, a, -, rfl⟩
  · exact .inr (.inr ⟨rfl, rfl, rfl⟩)
  · exact .inr (.inr ⟨rfl, rfl, rfl⟩)
  · exact .inr (.inr ⟨rfl, rfl, rfl⟩)
  · exact .inr (.inr ⟨rfl, rfl, rfl⟩)
  · exact .inr (.inr ⟨rfl, rfl, rfl⟩)
  · exact .inr (.inr ⟨rfl, rfl, rfl⟩)
  · exact .inr (.inl ⟨rfl, k, hk, rfl⟩)
  · exact .inl rfl
  · exact .inr (.inr ⟨rfl, rfl, rfl⟩)
  · exact .inr (.inr ⟨rfl, rfl, rfl⟩)

/-- A step resets the block, or is an `RSP.PARSE` with a request outstanding, or keeps `ADDR` and the
measurements (R21, R27, R28). -/
theorem step_reset_or_parse_or_keeps {s t : State} (h : step s = .next t) :
    nextResets s ∨
    (nextParses s ∧ ∃ rest k, s.reqKind = some k ∧
      t = (s.setInbox rest).finishParse k (parse s.params k s.addr s.rxBytes)) ∨
    (t.addr = s.addr ∧ t.meas = s.meas ∧ t.measValid = s.measValid) := by
  rcases step_next h with ⟨-, rfl⟩ | ⟨a, rest, hin, hp⟩
  · exact .inr (.inr ⟨rfl, rfl, rfl⟩)
  rcases perform_next hp with ⟨rfl, -⟩ | ⟨c, i, rfl, hdec, hex⟩ | ⟨B, -, -, rfl⟩ | ⟨w, -, rfl⟩ |
    ⟨i, v, -, -, rfl⟩ | ⟨v, -, -, rfl⟩
  · exact .inl ⟨rest, .inl hin⟩
  · rcases exec_reset_or_parse_or_keeps hex with rfl | ⟨rfl, k, hk, rfl⟩ | hkeeps
    · exact .inl ⟨rest, .inr ⟨c, hin, hdec⟩⟩
    · exact .inr (.inl ⟨⟨c, rest, hin, hdec⟩, rest, k, hk, rfl⟩)
    · exact .inr (.inr hkeeps)
  all_goals exact .inr (.inr ⟨rfl, rfl, rfl⟩)

/-- The step performs the act in front of the inbox on what is left. -/
theorem step_of_inbox_cons {s : State} {a : HostAct} {rest : List HostAct} (h : s.inbox = a :: rest) :
    step s = perform a (s.setInbox rest) := by
  simp only [step, h]

/-- A presented code that decodes is executed. -/
theorem issue_of_decode_ok {c : Code} {i : Instr} (h : decode c = .ok i) (s : State) : issue c s = exec i s := by
  simp only [issue, h]

/-- The instruction read from a table word is the one its code decodes to. -/
theorem decode_of_decodeTableWord {nbits w : Nat} {i : Instr} (h : decodeTableWord nbits w = some i) :
    decode (codeOfTableWord nbits w) = .ok i := by
  unfold decodeTableWord at h
  split at h
  · next j hj => rw [hj, Option.some.inj h]
  · cases h

/-- A reply row leaves `REQ_KIND`: the reply is only stored (log 5). -/
theorem receiveReply_reqKind {k : Kind} {B : List Byte} {s t : State} (h : receiveReply k B s = .next t) :
    t.reqKind = s.reqKind := by
  obtain ⟨-, rfl⟩ := receiveReply_next h
  rfl

/-- R26: an operation other than `RESET` leaves `RX_LEN`, `RXBUF` and the number of its free values. -/
theorem exec_operation_keeps_rxbuf {i : Instr} {s t : State} (hop : isOperation i = true) (hreset : i ≠ .reset)
    (hex : exec i s = .next t) : t.rxLen = s.rxLen ∧ t.rxbuf = s.rxbuf ∧ t.epoch = s.epoch := by
  cases i with
  | crcInit => cases hex; exact ⟨rfl, rfl, rfl⟩
  | crcUpd b => cases hex; exact ⟨rfl, rfl, rfl⟩
  | reqDisc => cases hex; exact ⟨rfl, rfl, rfl⟩
  | reqAssign n => cases hex; exact ⟨rfl, rfl, rfl⟩
  | reqRead => rcases execReqRead_next hex with ⟨-, rfl⟩ | ⟨-, rfl⟩ <;> exact ⟨rfl, rfl, rfl⟩
  | rspParse =>
    obtain ⟨k, -, -, rfl⟩ := execRspParse_next hex
    simp
  | reset => exact absurd rfl hreset
  | _ => cases hop

/-! ### The block's step does not see the acts to come and the last answer (R37) -/

/-- `s` with other acts to come and another last answer: the two fields that no operation reads. -/
def State.withRecords (s : State) (l : List HostAct) (w : Answer) : State := (s.setInbox l).setAnswer w

/-- The block with its arguments is the state but for the records. -/
theorem State.withArguments_eq_withRecords (s : State) :
    s.toBlock.withArguments s.params s.epoch = s.withRecords [] .none := rfl

section
variable (s : State) (l : List HostAct) (w : Answer)

/-- A finished parse does not see the records. -/
theorem State.finishParse_withRecords_toBlock (k : Kind) (r : ParseResult) :
    ((s.withRecords l w).finishParse k r).toBlock = (s.finishParse k r).toBlock := by
  cases r with
  | valid p => cases p <;> rfl
  | checksumMismatch => rfl
  | malformed => rfl
  | unexpected => rfl

/-- `REQ.READ` does not see the records. -/
theorem blockOutcome_execReqRead_withRecords :
    blockOutcome (execReqRead (s.withRecords l w)) = blockOutcome (execReqRead s) := by
  simp only [execReqRead, apply_ite blockOutcome]
  rfl

/-- `RSP.PARSE` does not see the records: it reads the same kind, count, address and bytes. -/
theorem blockOutcome_execRspParse_withRecords :
    blockOutcome (execRspParse (s.withRecords l w)) = blockOutcome (execRspParse s) := by
  have hkind : (s.withRecords l w).reqKind = s.reqKind := rfl
  cases hs : s.reqKind with
  | none => simp only [execRspParse, hkind, hs]
  | some k =>
    simp only [execRspParse, hkind, hs, apply_ite blockOutcome, blockOutcome_next,
      State.finishParse_withRecords_toBlock]
    rfl

/-- `HOST.RX` does not see the records. -/
theorem blockOutcome_hostRx_withRecords (B : List Byte) :
    blockOutcome (hostRx B (s.withRecords l w)) = blockOutcome (hostRx B s) := by
  simp only [hostRx, apply_ite blockOutcome]
  rfl

/-- What a reply row does to the block is what `HOST.RX` does: the parse is only the answer (log 5). -/
theorem blockOutcome_receiveReply (k : Kind) (B : List Byte) :
    blockOutcome (receiveReply k B s) = blockOutcome (hostRx B s) := by
  unfold receiveReply
  cases hostRx B s <;> rfl

/-- No instruction sees the records. -/
theorem blockOutcome_exec_withRecords (i : Instr) :
    blockOutcome (exec i (s.withRecords l w)) = blockOutcome (exec i s) := by
  cases i with
  | reqRead => exact blockOutcome_execReqRead_withRecords s l w
  | rspParse => exact blockOutcome_execRspParse_withRecords s l w
  | frameRspRead a data c d =>
    simp only [exec, execFrameRspRead, blockOutcome_receiveReply, blockOutcome_hostRx_withRecords]
  | frameRspDisc data c d =>
    simp only [exec, execFrameRspDisc, blockOutcome_receiveReply, blockOutcome_hostRx_withRecords]
  | frameRspAssign x v c d =>
    simp only [exec, execFrameRspAssign, blockOutcome_receiveReply, blockOutcome_hostRx_withRecords]
  | _ => rfl

/-- A host read does not see the records: its condition and the index it needs are the block's and the build's. -/
theorem blockOutcome_hostRead_withRecords (r : HostReg) :
    blockOutcome (hostRead r (s.withRecords l w)) = blockOutcome (hostRead r s) := by
  cases r <;> simp only [hostRead, apply_ite blockOutcome] <;> rfl

/-- A host write does not see the records. -/
theorem blockOutcome_hostWrite_withRecords (r : HostReg) (v : Nat) :
    blockOutcome (hostWrite r v (s.withRecords l w)) = blockOutcome (hostWrite r v s) := by
  cases r <;> simp only [hostWrite, apply_ite blockOutcome] <;> rfl

/-- `HOST.TX` does not see the records. -/
theorem blockOutcome_hostTx_withRecords : blockOutcome (hostTx (s.withRecords l w)) = blockOutcome (hostTx s) := by
  simp only [hostTx, apply_ite blockOutcome]
  rfl

/-- R37: no act of the outside sees the records. -/
theorem blockOutcome_perform_withRecords (a : HostAct) :
    blockOutcome (perform a (s.withRecords l w)) = blockOutcome (perform a s) := by
  cases a with
  | powerOn => rfl
  | issue c =>
    simp only [perform, issue]
    cases decode c with
    | ok i => exact blockOutcome_exec_withRecords s l w i
    | error e => rfl
  | rx B => exact blockOutcome_hostRx_withRecords s l w B
  | tx => exact blockOutcome_hostTx_withRecords s l w
  | read r => exact blockOutcome_hostRead_withRecords s l w r
  | write r v => exact blockOutcome_hostWrite_withRecords s l w r v

end

/-! ### The obligations -/

/-- Settles O50: each act and each instruction keeps the invariant, and taking the act from the inbox is not seen. -/
theorem everyStepKeepsTheInvariant : Obligations.EveryStepKeepsTheInvariant := by
  intro s t hinv hstep
  rcases step_next hstep with ⟨-, rfl⟩ | ⟨a, rest, -, hp⟩
  · exact hinv
  · exact (hinv.setInbox rest).perform hp

/-- Settles O15: `exec_next` gives each instruction's update, and none but the three named ones touches `CRC`. -/
theorem onlyTheCrcUnitAndResetWriteCrc : Obligations.OnlyTheCrcUnitAndResetWriteCrc := by
  intro i s t hex hinit hupd hreset
  rcases exec_next hex with ⟨rfl, -⟩ | ⟨b, rfl, -⟩ | ⟨-, rfl⟩ | ⟨n, -, rfl⟩ | ⟨-, -, rfl⟩ | ⟨-, -, rfl⟩ |
    ⟨k, -, -, -, rfl⟩ | ⟨rfl, -⟩ | ⟨a, rfl⟩ | ⟨B, a, -, rfl⟩
  · exact absurd rfl hinit
  · exact absurd rfl (hupd b)
  · rfl
  · rfl
  · rfl
  · rfl
  · simp
  · exact absurd rfl hreset
  · rfl
  · rfl

/-- Settles O51: a step that neither resets nor parses keeps `ADDR`, and a parse moves it on `Valid` results of the
two kinds alone. -/
theorem addressChangesOnlyAtAValidParseOrReset : Obligations.AddressChangesOnlyAtAValidParseOrReset := by
  intro s t hstep hne
  rcases step_reset_or_parse_or_keeps hstep with hreset | ⟨hparses, rest, k, hk, rfl⟩ | ⟨haddr, -, -⟩
  · exact .inl hreset
  · rcases State.finishParse_addr_eq_or (s.setInbox rest) k s.params s.addr s.rxBytes with haddr | ⟨hvalid, hkind⟩
    · exact absurd haddr hne
    · exact .inr ⟨hparses, hvalid, by simpa [hk] using hkind⟩
  · exact absurd haddr hne

/-- Settles O52: a step that neither resets nor parses keeps the measurements, and a parse writes them on a `Valid`
read alone, all from the reply. -/
theorem measurementsChangeOnlyAtAValidReadOrReset : Obligations.MeasurementsChangeOnlyAtAValidReadOrReset := by
  intro s t hstep hne
  rcases step_reset_or_parse_or_keeps hstep with hreset | ⟨hparses, rest, k, hk, rfl⟩ | ⟨-, hmeas, hvalid⟩
  · exact .inl hreset
  · rcases State.finishParse_meas_eq_or (s.setInbox rest) k s.params s.addr s.rxBytes with
      ⟨hmeas, hvalid⟩ | ⟨rfl, hout, hvalid, hparse⟩
    · exact absurd hne (by simp [hmeas, hvalid])
    · exact .inr ⟨hparses, hout, hk, hvalid, hparse⟩
  · exact absurd hne (by simp [hmeas, hvalid])

/-- Settles O53: the accumulator's, the framer's and the parser's operations leave `RXBUF`, its count and the number
at which its free bytes are taken. -/
theorem operationsLeaveTheReceiveBuffer : Obligations.OperationsLeaveTheReceiveBuffer := by
  intro i s t hop hreset hex
  obtain ⟨hlen, hbuf, hepoch⟩ := exec_operation_keeps_rxbuf hop hreset hex
  exact ⟨hlen, hbuf, State.readRx_congr hbuf hepoch⟩

/-- Settles O54: the table of R34, row by row. -/
theorem requestKindTransitions : Obligations.RequestKindTransitions := by
  intro i s t hex
  cases i with
  | crcInit => cases hex; rfl
  | crcUpd b => cases hex; rfl
  | reqDisc => cases hex; rfl
  | reqAssign n => cases hex; rfl
  | reqRead =>
    rcases execReqRead_next hex with ⟨haddr, rfl⟩ | ⟨haddr, rfl⟩
    · exact (if_pos haddr).symm
    · exact (if_neg haddr).symm
  | rspParse =>
    obtain ⟨k, -, -, rfl⟩ := execRspParse_next hex
    simp
  | reset => cases hex; rfl
  | frameReqDisc => cases hex; rfl
  | frameReqAssign n c d => cases hex; rfl
  | frameReqRead a c d => cases hex; rfl
  | frameRspRead a data c d => exact receiveReply_reqKind hex
  | frameRspDisc data c d => exact receiveReply_reqKind hex
  | frameRspAssign x v c d => exact receiveReply_reqKind hex

/-- Settles O55: the waiting block changes nothing, and no act changes the parameters. -/
theorem parametersNeverChange : Obligations.ParametersNeverChange := by
  intro s t hstep
  rcases step_next hstep with ⟨-, rfl⟩ | ⟨a, rest, -, hp⟩
  · rfl
  · exact (perform_params_inbox hp).1

/-- Settles O60: `step` and `blockStep` perform the same act on two states that differ in the records alone, which no
act sees. -/
theorem stepIsTheBlockStepWithItsArguments : Obligations.StepIsTheBlockStepWithItsArguments := by
  intro s a rest hin
  have hstep : step s = perform a (s.setInbox rest) := step_of_inbox_cons hin
  refine ⟨?_, fun t ht => ?_⟩
  · calc blockOutcome (step s) = blockOutcome (perform a (s.withRecords rest s.answer)) := by rw [hstep]; rfl
      _ = blockOutcome (perform a s) := blockOutcome_perform_withRecords s rest s.answer a
      _ = blockOutcome (perform a (s.withRecords [] .none)) := (blockOutcome_perform_withRecords s [] .none a).symm
      _ = blockStep s.params s.epoch a s.toBlock := by rw [blockStep, State.withArguments_eq_withRecords]
  · rw [hstep] at ht
    exact perform_params_inbox ht

/-- Settles O5: the step takes the presented code and `exec` runs what it decodes to; presenting a table word puts its
code in front and taking it gives the state back. -/
theorem stepRunsTheDecodedInstruction : Obligations.StepRunsTheDecodedInstruction := by
  refine ⟨fun s c rest i hin hdec => ?_, fun s nbits w i hword => ?_⟩
  · rw [step_of_inbox_cons hin]
    exact issue_of_decode_ok hdec _
  · rw [State.withFetchWord, step_of_inbox_cons (s.setInbox_inbox _)]
    exact issue_of_decode_ok (decode_of_decodeTableWord hword) s

/-- Settles O6: with an empty inbox the step is the waiting branch. -/
theorem blockWaitsForTheHost : Obligations.BlockWaitsForTheHost := by
  intro s hin
  simp only [step, hin]

/-- Settles O40: each value is the field of the definition. -/
theorem powerOnState : Obligations.PowerOnState := ⟨rfl, rfl, rfl, rfl, rfl, rfl, rfl, rfl⟩

/-- Settles O49: power-on leaves the reset values and the default `RX_CAP` of 260. -/
theorem invariantHoldsAfterPowerOn : Obligations.InvariantHoldsAfterPowerOn :=
  .of_reset_values (by decide) rfl rfl rfl rfl (freeDiscVal_toNat_lt 0) rfl rfl

end Sys2Proof.Machine

/-! The statement of 20_memory.md: what the host's accesses read. -/

namespace Sys2Proof.Machine

open Sys2Proof.Claims

/-! ### The codes that a read gives -/

/-- R23, R32: the number that the block gives for a kind is its code. -/
@[simp] theorem kindNumber_eq_kindCode (k : Option Kind) : kindNumber k = kindCode k := by
  cases k with
  | none => rfl
  | some k => cases k <;> rfl

/-- R31: the number that the block gives for an outcome is its code. -/
@[simp] theorem outcomeNumber_eq_outcomeCode (o : OutcomeCode) : outcomeNumber o = outcomeCode o := by
  cases o <;> rfl

/-! ### The frame of a read -/

/-- R57, R182, R185: an access that reads, be it the frame or one register, sets the answer (log 6) and nothing
else. -/
theorem perform_read_next {s t : State} (h : perform .tx s = .next t ∨ ∃ r, perform (.read r) s = .next t) :
    ∃ w, t = s.setAnswer w := by
  rcases h with htx | ⟨r, hread⟩
  · exact hostTx_next htx
  · obtain ⟨v, rfl⟩ := hostRead_next hread
    exact ⟨.value v, rfl⟩

/-! ### The obligation -/

/-- Settles O45: every read is `setAnswer` of some answer, and each register's read is its own row of `hostRead`, with
the kinds and outcomes in the codes of R23, R31, R32. -/
theorem hostReadsChangeNothing : Obligations.HostReadsChangeNothing := by
  refine ⟨fun s t h => ?_, fun s => ⟨rfl, rfl, ?reqKind, rfl, rfl, rfl, ?measValid, ?outcome, ?outKind,
    fun i => rfl, fun i => rfl⟩⟩
  · obtain ⟨w, rfl⟩ := perform_read_next h
    rfl
  case reqKind => rw [← kindNumber_eq_kindCode]; rfl
  case measValid => rw [← Bool.cond_eq_ite]; rfl
  case outcome => rw [← outcomeNumber_eq_outcomeCode]; rfl
  case outKind => rw [← kindNumber_eq_kindCode]; rfl

end Sys2Proof.Machine

/-! The statements of 30_encoding.md: the encoder and the decoder undo each other, the reserved command words are
refused, and the reply rows store what arrives. Command words are read by their two fields (R85), frames by the row
that their leading bytes match (R90). -/

namespace Sys2Proof

open Sys2Proof.Machine Sys2Proof.Claims

/-! ### The fields of a command word (R85) -/

/-- The operation code `op[3:0]` of a command word (R85), as `commandArg` is its operand. -/
def commandOp (w : CommandWord) : BitVec 4 := w.extractLsb' 8 4

/-- A command word is made of its two fields (R85). -/
theorem commandOf_op_arg (w : CommandWord) : commandOf (commandOp w) (commandArg w) = w := by
  apply BitVec.eq_of_getLsbD_eq
  intro i hi
  rw [getLsbD_commandOf]
  split_ifs with h
  · simp [commandArg, h]
  · simp [commandOp, show i - 8 < 4 by omega, show 8 + (i - 8) = i by omega]

@[simp] theorem commandOp_commandOf (op : BitVec 4) (arg : Byte) : commandOp (commandOf op arg) = op :=
  BitVec.extractLsb'_append_eq_left

@[simp] theorem commandArg_commandOf (op : BitVec 4) (arg : Byte) : commandArg (commandOf op arg) = arg :=
  BitVec.setWidth_append_eq_right

/-- Both fields of a command word can be read back (R85). -/
theorem commandOf_inj {op op' : BitVec 4} {arg arg' : Byte} :
    commandOf op arg = commandOf op' arg' ↔ op = op' ∧ arg = arg' := by
  refine ⟨fun h => ⟨?_, ?_⟩, fun ⟨hop, harg⟩ => by rw [hop, harg]⟩
  · simpa using congrArg commandOp h
  · simpa using congrArg commandArg h

/-- The fields of a command word as R87 counts them. -/
theorem toNat_commandOf (op : BitVec 4) (arg : Byte) :
    (commandOf op arg).toNat / 256 = op.toNat ∧ (commandOf op arg).toNat % 256 = arg.toNat := by
  have harg := arg.isLt
  have h : (commandOf op arg).toNat = 256 * op.toNat + arg.toNat := by
    calc (commandOf op arg).toNat = op.toNat <<< 8 ||| arg.toNat := BitVec.toNat_append op arg
      _ = 256 * op.toNat + arg.toNat := by rw [← Nat.shiftLeft_add_eq_or_of_lt harg, Nat.shiftLeft_eq]; omega
  omega

/-! ### The decoder on a command word (R86, R87) -/

/-- The mask `0xFFF` asks for both fields. -/
theorem selects_op_arg (op : BitVec 4) (arg : Byte) (w : CommandWord) :
    selects (commandOf op arg) w 0xFFF = true ↔ op = commandOp w ∧ arg = commandArg w := by
  have hmask : commandOf op arg &&& 0xFFF = commandOf op arg := BitVec.and_allOnes
  rw [selects, hmask, beq_iff_eq, ← commandOf_inj, commandOf_op_arg]

/-- The mask `0xF00` asks for the operation code alone. -/
theorem selects_op (op : BitVec 4) (arg : Byte) (w : CommandWord) :
    selects (commandOf op arg) w 0xF00 = true ↔ op = commandOp w ∧ 0x00 = commandArg w := by
  have hmask : commandOf op arg &&& 0xF00 = commandOf op 0x00 := by
    calc commandOf op arg &&& 0xF00 = commandOf (op &&& 0xF) (arg &&& 0x00) :=
          BitVec.and_append (x₂ := (0xF : BitVec 4)) (y₂ := (0x00 : Byte))
      _ = commandOf op 0x00 := by congr 1; exacts [BitVec.and_allOnes, BitVec.and_zero]
  rw [selects, hmask, beq_iff_eq, ← commandOf_inj, commandOf_op_arg]

/-- R86, R87: the table of the operations by operation code and operand. -/
theorem decodeCommand_commandOf (op : BitVec 4) (arg : Byte) : decodeCommand (commandOf op arg) =
    if op = 0x1 ∧ arg = 0x00 then .ok .crcInit
    else if op = 0x2 then .ok (.crcUpd arg)
    else if op = 0x4 ∧ arg = 0x00 then .ok .reqDisc
    else if op = 0x5 then .ok (.reqAssign arg)
    else if op = 0x6 ∧ arg = 0x00 then .ok .reqRead
    else if op = 0x8 ∧ arg = 0x00 then .ok .rspParse
    else if op = 0xF ∧ arg = 0x00 then .ok .reset
    else .error (.reservedCommand (commandOf op arg)) := by
  simp only [decodeCommand, selects_op_arg, selects_op, commandArg_commandOf]
  simp [commandOp, commandArg]

/-- A command word decodes to no operation but the one it encodes. -/
theorem encode_of_decodeCommand {w : CommandWord} {i : Instr} (h : decodeCommand w = .ok i) :
    encode i = .command w := by
  obtain ⟨op, arg, rfl⟩ : ∃ op arg, commandOf op arg = w := ⟨_, _, commandOf_op_arg w⟩
  rw [decodeCommand_commandOf] at h
  split_ifs at h <;> cases h <;> simp_all [encode]

/-- R87: no reserved operation code is one of the seven operations'. -/
theorem op_ne_of_mem_reserved : ∀ op : BitVec 4, op.toNat ∈ [0x0, 0x3, 0x7, 0x9, 0xA, 0xB, 0xC, 0xD, 0xE] →
    op ≠ 0x1 ∧ op ≠ 0x2 ∧ op ≠ 0x4 ∧ op ≠ 0x5 ∧ op ≠ 0x6 ∧ op ≠ 0x8 ∧ op ≠ 0xF := by decide

/-- R86, R87: an operand-less operation is neither of the two with an operand. -/
theorem op_ne_of_mem_operandless : ∀ op : BitVec 4, op.toNat ∈ [0x1, 0x4, 0x6, 0x8, 0xF] →
    op ≠ 0x2 ∧ op ≠ 0x5 := by decide

/-- R87: the decoder rejects every reserved word by name. -/
theorem decodeCommand_of_reservedWord {w : CommandWord} (h : reservedWord w) :
    decodeCommand w = .error (.reservedCommand w) := by
  obtain ⟨op, arg, rfl⟩ : ∃ op arg, commandOf op arg = w := ⟨_, _, commandOf_op_arg w⟩
  obtain ⟨hdiv, hmod⟩ := toNat_commandOf op arg
  rw [reservedWord, hdiv, hmod] at h
  rw [decodeCommand_commandOf]
  rcases h with hop | ⟨hop, harg⟩
  · simp only [op_ne_of_mem_reserved op hop, false_and, if_false]
  · have hne : arg ≠ 0x00 := by rintro rfl; exact harg rfl
    simp only [op_ne_of_mem_operandless op hop, hne, and_false, if_false]

/-! ### The bytes of a frame -/

/-- R90: mask bytes `0xFF` ask for the match bytes themselves. -/
theorem frameMatches_fixed_iff (ms : List Byte) (ps : List (Byte × Byte)) (B : List Byte) :
    frameMatches (ms.map (fun m => (m, 0xFF)) ++ ps) B = true ↔
      ∃ rest, B = ms ++ rest ∧ frameMatches ps rest = true := by
  have hmask : ∀ b : Byte, b &&& 0xFF = b := fun _ => BitVec.and_allOnes
  induction ms generalizing B with
  | nil => simp
  | cons m ms ih =>
    cases B with
    | nil => simp [frameMatches]
    | cons b B =>
      simp only [List.map_cons, List.cons_append, frameMatches, hmask, Bool.and_eq_true, beq_iff_eq, ih]
      simp [and_assoc]

/-- R90: a mask byte `0x00` asks only that there be a byte. -/
theorem frameMatches_any_iff (ps : List (Byte × Byte)) (B : List Byte) :
    frameMatches ((0x00, 0x00) :: ps) B = true ↔ ∃ b rest, B = b :: rest ∧ frameMatches ps rest = true := by
  cases B with
  | nil => simp [frameMatches]
  | cons b B => simp [frameMatches]

/-- Behind a reply's header stand its data and two checksum bytes (R75, R76). -/
theorem exists_eq_append_pair {rest : List Byte} {n : Nat} (h : rest.length = n + 2) :
    ∃ data c d, data.length = n ∧ rest = data ++ [c, d] := by
  obtain ⟨c, d, hcd⟩ : ∃ c d, rest.drop n = [c, d] := List.length_eq_two.mp (by simp [h])
  exact ⟨rest.take n, c, d, by simp [h], by rw [← hcd, List.take_append_drop]⟩

/-- The data and the checksum bytes of a reply stand where the data's length says (R75, R76). -/
theorem fields_of_header_append (x y z : Byte) (data : List Byte) (c d : Byte) :
    let B := [x, y, z] ++ data ++ [c, d]
    (B.drop 3).take data.length = data ∧ byteAt B (data.length + 3) = c ∧ byteAt B (data.length + 4) = d := by
  simp [byteAt]

/-- The discovery request, byte by byte (R72). -/
theorem buildDiscover_eq : buildDiscover = [0x00, 0x04, 0x00, 0x20, 0x00, 0x01, 0x31, 0xD1] := by decide +kernel

/-! ### Decode of encode -/

/-- What the decoder asks of operands (R80, R90), less than `Instr.wellFormed`: the data of a reply has the length its
row gives it, and a read reply is not broadcast. Checksum bytes and the address of a request it reads as they stand. -/
def Instr.fitsRow : Instr → Prop
  | .frameRspRead a data _ _ => a ≠ broadcast ∧ data.length = readByteCount
  | .frameRspDisc data _ _ => data.length ≤ 255
  | _ => True

/-- R73 to R76, R83: a well-formed instruction is one the decoder can read. -/
theorem Instr.fitsRow_of_wellFormed {i : Instr} (h : i.wellFormed = true) : i.fitsRow := by
  cases i with
  | frameRspRead a data c d => simpa [Instr.wellFormed, Instr.fitsRow] using h
  | frameRspDisc data c d => simpa [Instr.wellFormed, Instr.fitsRow] using h
  | _ => trivial

/-- R73: no other request row has function byte `0x06`. -/
theorem decodeRequest_assign (n c d : Byte) :
    decodeRequest (assignBody n ++ [c, d]) = .ok (.frameReqAssign n c d) := by
  simp [decodeRequest, assignBody_eq, rowReqDisc, rowReqAssign, frameMatches, byteAt]

/-- R74: the register offset tells a read request from a discovery request to the same address. -/
theorem decodeRequest_read (a c d : Byte) :
    decodeRequest (readBody a ++ [c, d]) = .ok (.frameReqRead a c d) := by
  simp [decodeRequest, readBody_eq, rowReqDisc, rowReqAssign, rowReqRead, frameMatches, byteAt]

/-- R75, log 8: the unicast address byte tells a read reply from a discovery reply. -/
theorem decodeReply_read {a : Byte} {data : List Byte} (ha : a ≠ broadcast) (hlen : data.length = 32) (c d : Byte) :
    decodeReply (readReply a data c d) = .ok (.frameRspRead a data c d) := by
  obtain ⟨hdata, hc, hd⟩ := fields_of_header_append a fcRead 0x20 data c d
  have hrow : ¬ frameMatches rowRspDisc (readReply a data c d) = true := fun h => by
    obtain ⟨rest, hbytes, -⟩ := (frameMatches_fixed_iff [broadcast, fcRead] [] _).mp h
    exact ha (List.head_eq_of_cons_eq hbytes)
  have hrow' : frameMatches rowRspRead (readReply a data c d) = true := Laws.RowMatch.frameRspRead a data c d
  have haddr : byteAt (readReply a data c d) 0 = a := rfl
  rw [hlen] at hdata hc hd
  rw [decodeReply, if_neg hrow, haddr, if_pos ⟨ha, hrow'⟩, readReply_length, hlen, if_neg (by simp)]
  rw [readReply, hdata, hc, hd]

/-- R76: the count byte holds the number of data bytes without loss. -/
theorem decodeReply_discover {data : List Byte} (hlen : data.length ≤ 255) (c d : Byte) :
    decodeReply (discoverReply data c d) = .ok (.frameRspDisc data c d) := by
  obtain ⟨hdata, hc, hd⟩ := fields_of_header_append broadcast fcRead (BitVec.ofNat 8 data.length) data c d
  have hrow : frameMatches rowRspDisc (discoverReply data c d) = true := Laws.RowMatch.frameRspDisc data c d
  have hcount : (byteAt (discoverReply data c d) 2).toNat = data.length := by
    change (BitVec.ofNat 8 data.length).toNat = data.length
    rw [BitVec.toNat_ofNat]
    omega
  rw [decodeReply, if_pos hrow, hcount, discoverReply_length, if_neg (by omega)]
  rw [discoverReply, hdata, hc, hd]

/-- R77: the function byte and the echo tell an assignment reply from the others. -/
theorem decodeReply_assign (x v c d : Byte) :
    decodeReply (assignReply x v c d) = .ok (.frameRspAssign x v c d) := by
  simp [decodeReply, assignReply_eq, rowRspDisc, rowRspAssign, frameMatches, byteAt, broadcast]

/-- R86, R90: an instruction whose operands fit its row is what its encoding decodes to. -/
theorem decode_encode {i : Instr} (h : i.fitsRow) : decode (encode i) = .ok i := by
  cases i with
  | crcInit => exact decodeCommand_commandOf 0x1 0x00
  | crcUpd b => exact decodeCommand_commandOf 0x2 b
  | reqDisc => exact decodeCommand_commandOf 0x4 0x00
  | reqAssign n => exact decodeCommand_commandOf 0x5 n
  | reqRead => exact decodeCommand_commandOf 0x6 0x00
  | rspParse => exact decodeCommand_commandOf 0x8 0x00
  | reset => exact decodeCommand_commandOf 0xF 0x00
  | frameReqDisc => rw [encode, buildDiscover_eq]; rfl
  | frameReqAssign n c d => exact decodeRequest_assign n c d
  | frameReqRead a c d => exact decodeRequest_read a c d
  | frameRspRead a data c d => exact decodeReply_read h.1 h.2 c d
  | frameRspDisc data c d => exact decodeReply_discover h c d
  | frameRspAssign x v c d => exact decodeReply_assign x v c d

/-! ### Encode of decode -/

/-- R80, R90: a request that the decoder accepts has eight bytes that match a request row, so it encodes one. -/
theorem exists_encode_eq_request {B : List Byte} {i : Instr} (h : decodeRequest B = .ok i) :
    ∃ j : Instr, j.fitsRow ∧ encode j = .frame .request B := by
  unfold decodeRequest at h
  split_ifs at h with hlen hdisc hassign hread <;> rw [not_not] at hlen
  · obtain ⟨rest, rfl, -⟩ := (frameMatches_fixed_iff [0x00, 0x04, 0x00, 0x20, 0x00, 0x01, 0x31, 0xD1] [] B).mp hdisc
    obtain rfl : rest = [] := by simpa using hlen
    exact ⟨.frameReqDisc, trivial, by rw [encode, buildDiscover_eq]; rfl⟩
  · obtain ⟨tail, rfl, htail⟩ := (frameMatches_fixed_iff [0x00, 0x06, 0x00, 0x20, 0x00] [(0x00, 0x00)] B).mp hassign
    obtain ⟨n, rest, rfl, -⟩ := (frameMatches_any_iff [] tail).mp htail
    obtain ⟨c, d, rfl⟩ := List.length_eq_two.mp (show rest.length = 2 by simpa using hlen)
    exact ⟨.frameReqAssign n c d, trivial, by rw [encode, assignBody_eq]; rfl⟩
  · obtain ⟨a, tail, rfl, htail⟩ := (frameMatches_any_iff _ B).mp hread
    obtain ⟨rest, rfl, -⟩ := (frameMatches_fixed_iff [0x04, 0x00, 0x00, 0x00, 0x10] [] tail).mp htail
    obtain ⟨c, d, rfl⟩ := List.length_eq_two.mp (show rest.length = 2 by simpa using hlen)
    exact ⟨.frameReqRead a c d, trivial, rfl⟩

/-- R80, R90: a reply that the decoder accepts matches a reply row and has the length that row gives it, so it
encodes one. -/
theorem exists_encode_eq_reply {B : List Byte} {i : Instr} (h : decodeReply B = .ok i) :
    ∃ j : Instr, j.fitsRow ∧ encode j = .frame .reply B := by
  unfold decodeReply at h
  split_ifs at h with hdisc hlen hread hlen hassign hlen
  · obtain ⟨tail, rfl, -⟩ := (frameMatches_fixed_iff [0x00, 0x04] [] B).mp hdisc
    rw [not_or, not_not, not_lt] at hlen
    obtain ⟨hmin, hlen⟩ := hlen
    obtain ⟨n, rest, rfl⟩ := List.exists_cons_of_length_pos (show 0 < tail.length by simp at hmin; omega)
    obtain ⟨data, c, d, hdata, rfl⟩ := exists_eq_append_pair (show rest.length = n.toNat + 2 by simpa [byteAt] using hlen)
    have hn := n.isLt
    refine ⟨.frameRspDisc data c d, show data.length ≤ 255 by omega, ?_⟩
    rw [encode, discoverReply, hdata, BitVec.ofNat_toNat, BitVec.setWidth_eq]
    rfl
  · obtain ⟨haddr, hread⟩ := hread
    obtain ⟨a, tail, rfl, htail⟩ := (frameMatches_any_iff _ B).mp hread
    obtain ⟨rest, rfl, -⟩ := (frameMatches_fixed_iff [0x04, 0x20] [] tail).mp htail
    obtain ⟨data, c, d, hdata, rfl⟩ := exists_eq_append_pair (show rest.length = 32 + 2 by simpa using hlen)
    exact ⟨.frameRspRead a data c d, ⟨haddr, hdata⟩, rfl⟩
  · obtain ⟨rest, rfl, -⟩ := (frameMatches_fixed_iff [0x00, 0x06, 0x00, 0x20] [] B).mp hassign
    obtain ⟨fields, c, d, hfields, rfl⟩ := exists_eq_append_pair (show rest.length = 2 + 2 by simpa using hlen)
    obtain ⟨x, v, rfl⟩ := List.length_eq_two.mp hfields
    exact ⟨.frameRspAssign x v c d, trivial, rfl⟩

/-- A code that encodes an instruction which round-trips decodes to no other. -/
theorem encode_of_decode {c : Code} {i : Instr} (h : decode c = .ok i)
    (hj : ∃ j : Instr, j.fitsRow ∧ encode j = c) : encode i = c := by
  obtain ⟨j, hfits, rfl⟩ := hj
  have hij : j = i := Except.ok.inj ((decode_encode hfits).symm.trans h)
  rw [hij]

/-! ### The reply rows -/

/-- R181, log 5: a reply that fits the receive buffer is stored, and its parse is the answer. -/
theorem receiveReply_of_fits {B : List Byte} {s : State} (h : B.length ≤ s.params.rxCap) (k : Kind) :
    receiveReply k B s = .next ((s.setRx B).setAnswer (.parsed (parse s.params k s.addr B))) := by
  simp only [receiveReply, hostRx, if_pos h]

/-- R181: after the reply is stored `RXBUF` holds its bytes, and the answer is not seen there. -/
theorem rxHolds_setRx_setAnswer (s : State) (B : List Byte) (a : Answer) :
    rxHolds s ((s.setRx B).setAnswer a) B := by
  have hread : ∀ i, ((s.setRx B).setAnswer a).readRx i = if i < B.length then byteAt B i else s.readRx i :=
    State.readRx_setRx s B
  exact ⟨fun i hi => by rw [hread, if_pos hi], fun i hi => by rw [hread, if_neg (Nat.not_lt.mpr hi)]⟩

/-! ### The obligations -/

/-- Settles O2: a well-formed instruction's operands fit its row, and the decoder reads each back from where the
encoder put it. -/
theorem decodeOfEncodeIsTheInstruction : Obligations.DecodeOfEncodeIsTheInstruction :=
  fun _ h => decode_encode (Instr.fitsRow_of_wellFormed h)

/-- Settles O3: an accepted word is read from its two fields, and an accepted frame matches a row, so it encodes an
instruction that round-trips. -/
theorem encodeOfDecodeIsTheCode : Obligations.EncodeOfDecodeIsTheCode := by
  intro c i h
  match c with
  | .command w => exact encode_of_decodeCommand h
  | .frame .request B => exact encode_of_decode h (exists_encode_eq_request h)
  | .frame .reply B => exact encode_of_decode h (exists_encode_eq_reply h)

/-- Settles O4: the decoder rejects a reserved word by name, and the step refuses what the decoder rejects. -/
theorem reservedCommandWordsAreRefused : Obligations.ReservedCommandWordsAreRefused := by
  intro s w rest hin hres
  have hdec : decode (.command w) = .error (.reservedCommand w) := decodeCommand_of_reservedWord hres
  simp only [step_of_inbox_cons hin, perform, issue, hdec, refusalOf]

/-- Settles O1: the decoder runs on the thirteen codes. -/
theorem writtenOutCodesDecode : Obligations.WrittenOutCodesDecode := by
  unfold Obligations.WrittenOutCodesDecode
  decide +kernel

/-- Settles O42: each reply row receives its bytes as a reply of the kind that expects it. -/
theorem replyRowsStoreTheReply : Obligations.ReplyRowsStoreTheReply := by
  intro i k B s hrow hfits
  have hexec : exec i s = receiveReply k B s := by
    rcases hrow with ⟨a, data, c, d, rfl, rfl, rfl⟩ | ⟨data, c, d, rfl, rfl, rfl⟩ | ⟨x, v, c, d, rfl, rfl, rfl⟩ <;> rfl
  exact ⟨_, hexec.trans (receiveReply_of_fits hfits k), rxHolds_setRx_setAnswer s B _, rfl⟩

end Sys2Proof

/-! The statements of 40_crc.md: the checksum step is eight shifts of the generation rule (R101), and a shift is
linear over exclusive-or and loses no bit; from that the laws of R104, and what the two operations of the unit do. -/

namespace Sys2Proof.Machine

open Sys2Proof.Claims

/-! ### One shift of the generation rule (R101) -/

/-- A shift as R104 (d) writes it: the constant or nothing is exclusive-ored in. -/
theorem polyShift_eq_xor (t : Half) : polyShift t = t >>> 1 ^^^ if t.getLsbD 0 then crcPoly else 0 := by
  unfold polyShift
  split_ifs
  · rfl
  · exact BitVec.xor_zero.symm

/-- R104 (d): a shift is linear over exclusive-or. -/
theorem polyShift_xor (x y : Half) : polyShift (x ^^^ y) = polyShift x ^^^ polyShift y := by
  have hpoly : (if (x ^^^ y).getLsbD 0 then crcPoly else 0) =
      (if x.getLsbD 0 then crcPoly else 0) ^^^ if y.getLsbD 0 then crcPoly else 0 := by
    rw [BitVec.getLsbD_xor]
    cases x.getLsbD 0 <;> cases y.getLsbD 0 <;> rfl
  rw [polyShift_eq_xor, polyShift_eq_xor, polyShift_eq_xor, hpoly, BitVec.ushiftRight_xor_distrib]
  ac_rfl

/-- A shift that drops a 0 is a logical shift. -/
theorem polyShift_of_getLsbD_eq_false {t : Half} (h : t.getLsbD 0 = false) : polyShift t = t >>> 1 := by
  simp only [polyShift, h, Bool.false_eq_true, if_false]

/-- The bit that a shift drops is the top bit of its result: bit 15 of `CRC_POLY` is set. -/
theorem getLsbD_polyShift_top (t : Half) : (polyShift t).getLsbD 15 = t.getLsbD 0 := by
  rw [polyShift_eq_xor]
  cases t.getLsbD 0 <;> simp [crcPoly]

/-- The results of two shifts tell the bits that were dropped, and so the bits that stayed. -/
theorem polyShift_injective : Function.Injective polyShift := by
  intro x y h
  have hbit : x.getLsbD 0 = y.getLsbD 0 := by
    rw [← getLsbD_polyShift_top x, h, getLsbD_polyShift_top]
  have hrest : x >>> 1 = y >>> 1 := by
    rw [polyShift_eq_xor, polyShift_eq_xor, hbit] at h
    exact (BitVec.xor_left_inj _).mp h
  apply BitVec.eq_of_getLsbD_eq
  rintro (_ | i) -
  · exact hbit
  · simpa [Nat.add_comm] using congrArg (·.getLsbD i) hrest

/-! ### A run of shifts -/

theorem polyShifts_xor (n : Nat) (x y : Half) : polyShifts n (x ^^^ y) = polyShifts n x ^^^ polyShifts n y := by
  induction n generalizing x y with
  | zero => rfl
  | succ n ih => rw [polyShifts, polyShift_xor, ih]; rfl

theorem polyShifts_injective (n : Nat) : Function.Injective (polyShifts n) := by
  induction n with
  | zero => exact Function.injective_id
  | succ n ih => exact ih.comp polyShift_injective

/-- Shifts that drop nothing but zeros are logical shifts. -/
theorem polyShifts_of_low_zeros {n : Nat} {t : Half} (h : ∀ i < n, t.getLsbD i = false) :
    polyShifts n t = t >>> n := by
  induction n generalizing t with
  | zero => rfl
  | succ n ih =>
    have hlow : ∀ i < n, (t >>> 1).getLsbD i = false := by
      intro i hi
      rw [BitVec.getLsbD_ushiftRight, h (1 + i) (by omega)]
    rw [polyShifts, polyShift_of_getLsbD_eq_false (h 0 (Nat.succ_pos n)), ih hlow, ← BitVec.shiftRight_add,
      Nat.add_comm]

/-! ### The checksum step (R103) -/

/-- R101, R102: each hard-coded entry is eight shifts of its index. -/
theorem tableEntry_eq_polyShifts : ∀ i : Byte, tableEntry i = polyShifts 8 (i.setWidth 16) := by
  decide +kernel

/-- A byte reaches the accumulator's low byte alone. -/
theorem xor_zext_ushiftRight (c : Half) (b : Byte) : (c ^^^ b.setWidth 16) >>> 8 = c >>> 8 := by
  ext i hi
  simp

/-- Eight shifts of a value: its high byte moves down, and its low byte selects the table entry. -/
theorem polyShifts_eight (x : Half) : polyShifts 8 x = x >>> 8 ^^^ tableEntry (lo8 x) := by
  let low : Half := (lo8 x).setWidth 16
  have hzeros : ∀ i < 8, (x ^^^ low).getLsbD i = false := by
    intro i hi
    simp [low, lo8, hi, show i < 16 by omega]
  have hhigh : polyShifts 8 (x ^^^ low) = x >>> 8 := by
    rw [polyShifts_of_low_zeros hzeros, xor_zext_ushiftRight]
  calc polyShifts 8 x = polyShifts 8 (x ^^^ low ^^^ low) := by rw [BitVec.xor_assoc, BitVec.xor_self, BitVec.xor_zero]
    _ = x >>> 8 ^^^ tableEntry (lo8 x) := by rw [polyShifts_xor, hhigh, tableEntry_eq_polyShifts]

/-- R104 (d): the table step is the bit-serial form. -/
theorem crcStep_eq_polyShifts (c : Half) (b : Byte) : crcStep c b = polyShifts 8 (c ^^^ b.setWidth 16) := by
  rw [polyShifts_eight, xor_zext_ushiftRight, crcStep]

/-- A byte equal to the accumulator's low byte selects entry 0, which is zero: the step only shifts. -/
theorem crcStep_lo8 (c : Half) : crcStep c (lo8 c) = c >>> 8 := by
  have hindex : lo8 (c ^^^ (lo8 c).setWidth 16) = 0 := by simp [lo8]
  have hentry : tableEntry 0 = 0 := rfl
  rw [crcStep, hindex, hentry]
  exact BitVec.xor_zero

/-- Unequal accumulators stay unequal over a byte. -/
theorem crcStep_left_injective (b : Byte) : Function.Injective (crcStep · b) := by
  intro c d h
  simp only [crcStep_eq_polyShifts] at h
  exact (BitVec.xor_left_inj _).mp (polyShifts_injective 8 h)

/-- Unequal bytes lead one accumulator to unequal ones. -/
theorem crcStep_right_injective (c : Half) : Function.Injective (crcStep c) := by
  intro b d h
  rw [crcStep_eq_polyShifts, crcStep_eq_polyShifts] at h
  have hzext : b.setWidth 16 = d.setWidth 16 := (BitVec.xor_right_inj _).mp (polyShifts_injective 8 h)
  simpa only [lo8_zext] using congrArg lo8 hzext

theorem crcRun_injective (B : List Byte) : Function.Injective (crcRun · B) := by
  induction B with
  | nil => exact Function.injective_id
  | cons b B ih => exact ih.comp (crcStep_left_injective b)

/-! ### The operations of the unit (R105 to R107) -/

/-- R106, R107: one `CRC.UPD` for each byte runs the accumulator over them, from whatever it holds. -/
theorem crcUpdates_eq (B : List Byte) (s : State) : crcUpdates B s = .next (s.setCrc (crcRun s.crc B)) := by
  induction B generalizing s with
  | nil => rfl
  | cons b B ih => exact ih (s.setCrc (crcStep s.crc b))

/-- R107: the accumulator runs from `CRC_INIT`. -/
theorem checksumOf_eq (B : List Byte) (s : State) : checksumOf B s = .next (s.setCrc (crc16 B)) :=
  crcUpdates_eq B (s.setCrc crcInitValue)

/-! ### The obligations -/

/-- Settles O11: the high byte of the accumulator moves down and the table entry is the low byte's eight shifts. -/
theorem crcStepIsTheBitSerialForm : Obligations.CrcStepIsTheBitSerialForm :=
  crcStep_eq_polyShifts

/-- Settles O12: each checksum byte is the low byte of the accumulator it meets, so both steps only shift. -/
theorem closedBodyHasZeroChecksum : Obligations.ClosedBodyHasZeroChecksum := by
  intro X
  let c := crc16 X
  calc crc16 (closed X) = crcStep (crcStep c (lo8 c)) (lo8 (c >>> 8)) := crcRun_append crcInitValue X _
    _ = c >>> 8 >>> 8 := by rw [crcStep_lo8, crcStep_lo8]
    _ = 0x0000 := by rw [← BitVec.shiftRight_add]; exact BitVec.ushiftRight_eq_zero (le_refl 16)

/-- Settles O13: the differing byte parts the accumulators, and no later byte brings them together. -/
theorem oneChangedByteChangesTheChecksum : Obligations.OneChangedByteChangesTheChecksum := by
  intro X Y b c hne heq
  simp only [crc16, crcRun_append, crcRun_cons] at heq
  exact hne (crcStep_right_injective _ (crcRun_injective Y heq))

/-- Settles O14: the updates run the accumulator from `CRC_INIT`, and the host reads it. -/
theorem streamingChecksumIsCrc16 : Obligations.StreamingChecksumIsCrc16 := by
  intro B s
  have hrun : checksumOf B s = .next { s with crc := crc16 B } := checksumOf_eq B s
  exact ⟨hrun, by rw [checksum, hrun, giveBack]⟩

/-- Settles O7: the word is the encoding of `CRC.INIT`, and its meaning is one write of `CRC`. -/
theorem crcInitSetsTheAccumulator : Obligations.CrcInitSetsTheAccumulator :=
  ⟨decode_encode (i := .crcInit) trivial, fun _ => rfl⟩

/-- Settles O8: the word is the encoding of `CRC.UPD b`, and its meaning is one write of `CRC`. -/
theorem crcUpdStepsTheAccumulator : Obligations.CrcUpdStepsTheAccumulator := by
  intro b
  have hword : (0x200 ||| b.setWidth 12 : CommandWord) = commandOf 0x2 b := rfl
  exact ⟨by rw [hword]; exact decode_encode (i := .crcUpd b) trivial, fun _ => rfl⟩

/-- Settles O9: the table's 256 entries, each against its own eight shifts. -/
theorem tableHoldsTheGeneratedEntries : Obligations.TableHoldsTheGeneratedEntries :=
  tableEntry_eq_polyShifts

/-- Settles O10: a run over a sequence and one more byte is the run over the sequence and one step. -/
theorem checksumOfNoBytesAndOfOneMore : Obligations.ChecksumOfNoBytesAndOfOneMore :=
  ⟨rfl, fun X b => crcRun_append crcInitValue X [b]⟩

end Sys2Proof.Machine

/-! The statements of 41_framer.md: the three builders close their bodies with the checksum, and the `REQ.*` operations
put the built frame into `TXBUF`; the request rows give it back and leave the block alone. -/

namespace Sys2Proof.Machine

open Sys2Proof.Claims

/-! ### The built frames (R120 to R124) -/

/-- R120: the model's `frame` closes a body with its own checksum, low byte first. -/
theorem frame_eq_closed (body : List Byte) : frame body = closed body := rfl

/-- R122: the assignment request, byte by byte up to its checksum. -/
theorem buildAssign_eq_closed (n : Byte) : buildAssign n = closed [0x00, 0x06, 0x00, 0x20, 0x00, n] := by
  rw [buildAssign, assignBody_eq, frame_eq_closed]

/-- R123: the read request, byte by byte up to its checksum. -/
theorem buildRead_eq_closed (a : Byte) : buildRead a = closed [a, 0x04, 0x00, 0x00, 0x00, 0x10] := by
  rw [buildRead, readBody_eq, frame_eq_closed]

/-- R124: each builder frames a body of six bytes. -/
theorem exists_body_of_built {F : List Byte}
    (h : F = buildDiscover ∨ (∃ n, F = buildAssign n) ∨ ∃ a, F = buildRead a) :
    ∃ body : List Byte, body.length = 6 ∧ F = frame body := by
  rcases h with rfl | ⟨n, rfl⟩ | ⟨a, rfl⟩
  · exact ⟨discoverBody, discoverBody_length, rfl⟩
  · exact ⟨assignBody n, assignBody_length n, rfl⟩
  · exact ⟨readBody a, readBody_length a, rfl⟩

/-- R120, R124: the checksum of a frame's body stands behind the body, low byte first. -/
theorem crc16_take_frame {body : List Byte} {n : Nat} (hn : body.length = n) :
    crc16 ((frame body).take n) = le16 (byteAt (frame body) n) (byteAt (frame body) (n + 1)) := by
  subst hn
  have hbody : (frame body).take body.length = body := List.take_left
  have hlow : byteAt (frame body) body.length = lo8 (crc16 body) := by simp [byteAt, frame, le16Bytes]
  have hhigh : byteAt (frame body) (body.length + 1) = hi8 (crc16 body) := by simp [byteAt, frame, le16Bytes]
  rw [hbody, hlow, hhigh, le16_lo8_hi8]

/-! ### The request that a `REQ.*` begins (R125 to R127) -/

/-- R25: after a `REQ.*` has built a frame of eight bytes `TXBUF` holds it, and its other bytes stay. -/
theorem txHolds_beginRequest (s : State) (k : Kind) {F : List Byte} (hF : F.length = 8) :
    txHolds s (s.beginRequest k F) F := by
  refine ⟨hF, fun i hi => ?_, fun i hi => ?_⟩
  · rw [State.readTx_beginRequest, if_pos (hF ▸ hi)]
  · rw [State.readTx_beginRequest, if_neg (by omega)]

/-! ### The obligations -/

/-- Settles O16: each builder is its body, written out, closed by the checksum. -/
theorem buildersReturnTheRequestFrames : Obligations.BuildersReturnTheRequestFrames :=
  ⟨buildDiscover_eq, buildAssign_eq_closed, buildRead_eq_closed⟩

/-- Settles O17: a built frame is a body of six bytes and, behind it, the body's checksum. -/
theorem builtFramesCarryTheirChecksum : Obligations.BuiltFramesCarryTheirChecksum := by
  intro F hF
  obtain ⟨body, hlen, rfl⟩ := exists_body_of_built hF
  exact ⟨by rw [frame_length, hlen], crc16_take_frame hlen⟩

/-- Settles O18: the word is the encoding of `REQ.DISC`, which begins a request with the discovery frame. -/
theorem reqDiscBuildsTheDiscoveryRequest : Obligations.ReqDiscBuildsTheDiscoveryRequest := by
  refine ⟨decode_encode (i := .reqDisc) trivial, fun s => ⟨s.beginRequest .discover buildDiscover, rfl, ?_, rfl⟩⟩
  rw [← buildDiscover_eq]
  exact txHolds_beginRequest s .discover buildDiscover_length

/-- Settles O19: the word is the encoding of `REQ.ASSIGN n`, which begins a request with the assignment frame; that it
writes `REQ_ARG` too is not seen in `TXBUF`. -/
theorem reqAssignBuildsTheAssignmentRequest : Obligations.ReqAssignBuildsTheAssignmentRequest := by
  intro n
  have hword : (0x500 ||| n.setWidth 12 : CommandWord) = commandOf 0x5 n := rfl
  refine ⟨by rw [hword]; exact decode_encode (i := .reqAssign n) trivial, fun s =>
    ⟨(s.beginRequest .assign (buildAssign n)).setReqArg n, rfl, ?_, rfl⟩⟩
  rw [← buildAssign_eq_closed]
  exact txHolds_beginRequest s .assign (buildAssign_length n)

/-- Settles O20: the word is the encoding of `REQ.READ`, which begins a request with the read frame when `ADDR` is
known, and fails when it is not. -/
theorem reqReadBuildsTheReadRequestOrFails : Obligations.ReqReadBuildsTheReadRequestOrFails := by
  refine ⟨decode_encode (i := .reqRead) trivial, fun s haddr => ?known, fun s haddr => ?unknown⟩
  case known =>
    refine ⟨s.beginRequest .read (buildRead s.addr), if_neg haddr, ?_, rfl⟩
    rw [← buildRead_eq_closed]
    exact txHolds_beginRequest s .read (buildRead_length s.addr)
  case unknown => exact if_pos haddr

/-- Settles O41: a request row answers with its builder's frame, whose checksum bytes do not come from the row. -/
theorem requestRowsGiveTheBuiltFrame : Obligations.RequestRowsGiveTheBuiltFrame := by
  refine ⟨fun s => ?_, fun n c d s => ?_, fun a c d s => ?_⟩
  · rw [← buildDiscover_eq]; rfl
  · rw [← buildAssign_eq_closed]; rfl
  · rw [← buildRead_eq_closed]; rfl

end Sys2Proof.Machine

/-! The statements of 42_parser.md: `parse` answers with the first outcome of R154's table that applies, the replies of
R75 to R77 are `Valid` with their payload, a changed byte or bytes behind the frame lead to the outcome that R154
names, and `RSP.PARSE` writes what `parse` gives. Which check fails is read off the frame's header alone, so the same
few lemmas serve all three request kinds. -/

namespace Sys2Proof.Machine

open Sys2Proof.Claims

/-! ### The outcome of `parse` (R141 to R154) -/

/-- R141: the minimum length of the model is that of R141. -/
theorem lt_minLength_iff {k : Kind} {B : List Byte} : B.length < minLength k ↔ tooShort k B := by
  cases k <;> rfl

/-- R142: the first byte of a reply of kind `k` is the known address for a read, and the broadcast for the others. -/
theorem not_firstByteWrong_iff {k : Kind} {A : Byte} {B : List Byte} :
    ¬ firstByteWrong k A B ↔ byteAt B 0 = (if k = .read then A else 0x00) ∧ (k = .read → A ≠ 0x00) := by
  unfold firstByteWrong
  cases k <;> simp <;> grind

theorem shapeOf_eq_addressed_iff {A : Byte} {B : List Byte} :
    shapeOf A B = some .addressed ↔ A ≠ 0x00 ∧ byteAt B 0 = A := by
  unfold shapeOf broadcast
  split_ifs <;> simp_all

theorem shapeOf_eq_broadcast_iff {A : Byte} {B : List Byte} : shapeOf A B = some .broadcast ↔ byteAt B 0 = 0x00 := by
  unfold shapeOf broadcast
  split_ifs <;> simp_all

/-- R142: `classify` finds another shape than the kind expects exactly when the first byte is wrong. -/
theorem shapeOf_ne_expectedShape_iff {k : Kind} {A : Byte} {B : List Byte} :
    shapeOf A B ≠ some (expectedShape k) ↔ firstByteWrong k A B := by
  rw [← not_iff_not, ne_eq, not_not, not_firstByteWrong_iff]
  cases k with
  | discover => simpa [expectedShape] using shapeOf_eq_broadcast_iff
  | assign => simpa [expectedShape] using shapeOf_eq_broadcast_iff
  | read => simpa [expectedShape, and_comm] using shapeOf_eq_addressed_iff

/-- R144: the count check of the model. -/
theorem countFits_iff {B : List Byte} : countFits B = true ↔ 3 + (byteAt B 2).toNat + 2 ≤ B.length :=
  decide_eq_true_iff

/-- R146: the trailing check of the model. -/
theorem trailFits_iff {strict : Bool} {B : List Byte} {e : Nat} :
    trailFits strict B e = true ↔ (strict = true → B.length = e) := by
  cases strict <;> simp [trailFits]

/-- R145, R191: the checksum check of the model, at the boundary of the shape. -/
theorem checksumFits_iff {k : Kind} {B : List Byte} {n : Nat} (hn : frameEnd k B = n + 2) :
    checksumFits B n = true ↔ ¬ checksumWrong k B := by
  simp [checksumFits, checksumWrong, hn]

theorem le16_inj {l h l' h' : Byte} : le16 l h = le16 l' h' ↔ l = l' ∧ h = h' := by
  constructor
  · intro heq
    exact ⟨by simpa using congrArg lo8 heq, by simpa using congrArg hi8 heq⟩
  · rintro ⟨rfl, rfl⟩
    rfl

theorem be16_eq_regAddr_iff {h l : Byte} : be16 h l = regAddr ↔ h = 0x00 ∧ l = 0x20 := by
  have hregAddr : regAddr = le16 0x20 0x00 := rfl
  rw [be16_eq_le16, hregAddr, le16_inj, and_comm]

/-- The payload that a `Valid` reply of kind `k` carries (R147, R151, R153). -/
def payloadOf (p : Params) (B : List Byte) : Kind → Payload
  | .discover => .discover (discValue B (countOf B))
  | .assign => .assign (byteAt B 5)
  | .read => .read (floatsOf p.floatPerm B)

/-- Rows 3 to 5 of R154's table: what is left once length and first byte are right. -/
theorem parse_cases_of_header {p : Params} {k : Kind} {A : Byte} {B : List Byte} (hlong : ¬ tooShort k B)
    (hfirst : ¬ firstByteWrong k A B) :
    (structureWrong p k B ∧ parse p k A B = .malformed) ∨
    (¬ structureWrong p k B ∧ checksumWrong k B ∧ parse p k A B = .checksumMismatch) ∨
    (¬ structureWrong p k B ∧ ¬ checksumWrong k B ∧ parse p k A B = .valid (payloadOf p B k)) := by
  rw [← lt_minLength_iff] at hlong
  rw [← shapeOf_ne_expectedShape_iff] at hfirst
  cases k with
  | read =>
    have hsum := checksumFits_iff (k := .read) (B := B) (n := 35) rfl
    have hstruct : structureWrong p .read B ↔ byteAt B 1 ≠ fcRead ∨ ¬ countFits B ∨
        countOf B ≠ readByteCount ∨ ¬ trailFits p.strictTrail B 37 := by
      simp [structureWrong, countFits_iff, trailFits_iff, countOf, readByteCount, fcRead, frameEnd]
    have hparse : parse p .read A B = parseRead p B := (if_neg hlong).trans (if_neg hfirst)
    rw [hparse, parseRead, hstruct]
    split_ifs <;> simp_all [payloadOf]
  | discover =>
    have hsum := checksumFits_iff (k := .discover) (B := B) (n := 3 + countOf B) rfl
    have hstruct : structureWrong p .discover B ↔ byteAt B 1 ≠ fcRead ∨ ¬ countFits B ∨
        ¬ trailFits p.strictTrail B (3 + countOf B + 2) := by
      simp [structureWrong, countFits_iff, trailFits_iff, countOf, fcRead, frameEnd]
    have hparse : parse p .discover A B = parseDiscover p B := (if_neg hlong).trans (if_neg hfirst)
    rw [hparse, parseDiscover, hstruct]
    split_ifs <;> simp_all [payloadOf]
  | assign =>
    have hsum := checksumFits_iff (k := .assign) (B := B) (n := 6) rfl
    have hstruct : structureWrong p .assign B ↔ byteAt B 1 ≠ fcWrite ∨
        be16 (byteAt B 2) (byteAt B 3) ≠ regAddr ∨ ¬ trailFits p.strictTrail B 8 := by
      simp [structureWrong, trailFits_iff, fcWrite, frameEnd, be16_eq_regAddr_iff]
    have hparse : parse p .assign A B = parseAssign p B := (if_neg hlong).trans (if_neg hfirst)
    rw [hparse, parseAssign, hstruct]
    split_ifs <;> simp_all [payloadOf]

/-- R154, row 1. -/
theorem parse_of_tooShort {k : Kind} {B : List Byte} (hshort : tooShort k B) (p : Params) (A : Byte) :
    parse p k A B = .malformed :=
  if_pos (lt_minLength_iff.mpr hshort)

section
variable {p : Params} {k : Kind} {A : Byte} {B : List Byte}

/-- R154, row 2. -/
theorem parse_of_firstByteWrong (hlong : ¬ tooShort k B) (hfirst : firstByteWrong k A B) (p : Params) :
    parse p k A B = .unexpected :=
  (if_neg (mt lt_minLength_iff.mp hlong)).trans (if_pos (shapeOf_ne_expectedShape_iff.mpr hfirst))

/-- R154, row 3. -/
theorem parse_of_structureWrong (hlong : ¬ tooShort k B) (hfirst : ¬ firstByteWrong k A B)
    (hstruct : structureWrong p k B) : parse p k A B = .malformed := by
  simpa [hstruct] using parse_cases_of_header (p := p) hlong hfirst

/-- R154, row 4. -/
theorem parse_of_checksumWrong (hlong : ¬ tooShort k B) (hfirst : ¬ firstByteWrong k A B)
    (hstruct : ¬ structureWrong p k B) (hsum : checksumWrong k B) : parse p k A B = .checksumMismatch := by
  simpa [hstruct, hsum] using parse_cases_of_header (p := p) hlong hfirst

/-- R154, row 5, with the payload of the kind. -/
theorem parse_eq_valid (hlong : ¬ tooShort k B) (hfirst : ¬ firstByteWrong k A B) (hstruct : ¬ structureWrong p k B)
    (hsum : ¬ checksumWrong k B) : parse p k A B = .valid (payloadOf p B k) := by
  simpa [hstruct, hsum] using parse_cases_of_header (p := p) hlong hfirst

/-- A `Valid` reply passes every check, and its payload is the one of its kind. -/
theorem checks_of_parse_eq_valid {pl : Payload} (h : parse p k A B = .valid pl) :
    ¬ tooShort k B ∧ ¬ firstByteWrong k A B ∧ ¬ structureWrong p k B ∧ ¬ checksumWrong k B ∧
      pl = payloadOf p B k := by
  have hlong : ¬ tooShort k B := by
    intro hshort
    rw [parse_of_tooShort hshort] at h
    cases h
  have hfirst : ¬ firstByteWrong k A B := by
    intro hwrong
    rw [parse_of_firstByteWrong hlong hwrong] at h
    cases h
  rcases parse_cases_of_header hlong hfirst with ⟨-, heq⟩ | ⟨-, -, heq⟩ | ⟨hstruct, hsum, heq⟩
  · cases heq.symm.trans h
  · cases heq.symm.trans h
  · exact ⟨hlong, hfirst, hstruct, hsum, by simpa using h.symm.trans heq⟩

end

/-! ### The header decides which structure check fails (R143 to R146) -/

/-- The last index of a reply's header: the bytes before the data or, in an assignment reply, before index 4, which is
not examined (R75 to R77). -/
def headerLast : Kind → Nat
  | .discover => 2
  | .assign => 3
  | .read => 2

theorem le_headerLast_iff {k : Kind} {i : Nat} : i ≤ headerLast k ↔ i ≤ 2 ∨ (i = 3 ∧ k = .assign) := by
  cases k <;> simp [headerLast]
  omega

/-- The frame holds its header and, behind it, at least the checksum. -/
theorem headerLast_lt_frameEnd (k : Kind) (B : List Byte) : headerLast k + 2 < frameEnd k B := by
  cases k <;> simp [headerLast, frameEnd]
  omega

/-- Two byte sequences with the same header. -/
def SameHeader (k : Kind) (B B' : List Byte) : Prop := ∀ j ≤ headerLast k, byteAt B' j = byteAt B j

section
variable {p : Params} {k : Kind} {A : Byte} {B B' : List Byte}

theorem SameHeader.frameEnd_eq (h : SameHeader k B B') : frameEnd k B' = frameEnd k B := by
  cases k with
  | discover => simp only [frameEnd, h 2 (le_refl 2)]
  | assign => rfl
  | read => rfl

theorem SameHeader.firstByteWrong_iff (h : SameHeader k B B') : firstByteWrong k A B' ↔ firstByteWrong k A B := by
  simp only [firstByteWrong, h 0 (Nat.zero_le _)]

/-- What a right structure says (R143 to R146, R148, R152). -/
theorem not_structureWrong_iff : ¬ structureWrong p k B ↔
    byteAt B 1 = (if k = .assign then 0x06 else 0x04) ∧
      (k ≠ .assign → 3 + (byteAt B 2).toNat + 2 ≤ B.length) ∧
      (k = .read → (byteAt B 2).toNat = 32) ∧ (k = .assign → byteAt B 2 = 0x00 ∧ byteAt B 3 = 0x20) ∧
      (p.strictTrail = true → B.length = frameEnd k B) := by
  simp only [structureWrong, not_or, not_and, Classical.not_imp, not_not, not_lt, ne_eq]

/-- A longer sequence with the same header is as well structured, when trailing bytes are allowed. -/
theorem SameHeader.not_structureWrong (h : SameHeader k B B') (hlen : B.length ≤ B'.length)
    (hstrict : p.strictTrail = false) (hstruct : ¬ structureWrong p k B) : ¬ structureWrong p k B' := by
  rw [not_structureWrong_iff] at hstruct ⊢
  obtain ⟨hfun, hcount, h32, hecho, -⟩ := hstruct
  have h1 : byteAt B' 1 = byteAt B 1 := h 1 (le_headerLast_iff.mpr (by simp))
  have h2 : byteAt B' 2 = byteAt B 2 := h 2 (le_headerLast_iff.mpr (by simp))
  have h3 : k = .assign → byteAt B' 3 = byteAt B 3 := by rintro rfl; exact h 3 (le_refl 3)
  rw [h1, h2]
  exact ⟨hfun, fun hk => (hcount hk).trans hlen, h32, fun hk => by rw [h3 hk]; exact hecho hk, by simp [hstrict]⟩

/-- R141, R144: a sequence that is long enough and well structured holds its whole frame. -/
theorem frameEnd_le_length (hlong : ¬ tooShort k B) (hstruct : ¬ structureWrong p k B) :
    frameEnd k B ≤ B.length := by
  obtain ⟨-, hcount, h32, -⟩ := not_structureWrong_iff.mp hstruct
  cases k with
  | discover => exact hcount (by simp)
  | assign => exact not_lt.mp hlong
  | read =>
    have hroom := hcount (by simp)
    rwa [h32 rfl] at hroom

/-! ### One changed byte (R104, R154) -/

theorem byteAt_set_self {i : Nat} {x : Byte} (hi : i < B.length) : byteAt (B.set i x) i = x := by
  simp [byteAt, hi]

theorem byteAt_set_ne {i j : Nat} (h : i ≠ j) (x : Byte) : byteAt (B.set i x) j = byteAt B j := by
  simp [byteAt, h]

theorem sameHeader_set {i : Nat} (hi : headerLast k < i) (x : Byte) : SameHeader k B (B.set i x) :=
  fun _ hj => byteAt_set_ne (by omega) x

/-- R104 (g): one changed byte changes the checksum. -/
theorem crc16_set_ne {i : Nat} {x : Byte} (hi : i < B.length) (hx : x ≠ byteAt B i) :
    crc16 (B.set i x) ≠ crc16 B := by
  have hset : B = B.set i (byteAt B i) := by simp [byteAt, hi]
  have hne := oneChangedByteChangesTheChecksum (B.take i) (B.drop (i + 1)) x (byteAt B i) hx
  rwa [← List.set_eq_take_cons_drop x hi, ← List.set_eq_take_cons_drop _ hi, ← hset] at hne

/-- R154: a changed byte of the frame behind the header breaks the checksum, be it one of the bytes that the checksum
covers or one of its own two. -/
theorem checksumWrong_set {i : Nat} {x : Byte} (hsum : ¬ checksumWrong k B) (hfits : frameEnd k B ≤ B.length)
    (hi : i < frameEnd k B) (hheader : headerLast k < i) (hx : x ≠ byteAt B i) : checksumWrong k (B.set i x) := by
  have hend := headerLast_lt_frameEnd k B
  unfold checksumWrong at hsum ⊢
  rw [(sameHeader_set hheader x).frameEnd_eq]
  generalize hn : frameEnd k B - 2 = n at *
  rw [show frameEnd k B - 1 = n + 1 by omega] at hsum ⊢
  rw [not_not] at hsum
  by_cases hbody : i < n
  · have htake : byteAt (B.take n) i = byteAt B i := by simp [byteAt, hbody]
    have hcrc := crc16_set_ne (B := B.take n) (i := i) (x := x) (by simp; omega) (by rwa [htake])
    rwa [List.take_set, byteAt_set_ne (by omega), byteAt_set_ne (by omega), ← hsum]
  · rw [List.take_set_of_le (by omega), hsum, ne_eq, le16_inj]
    obtain rfl | rfl : i = n ∨ i = n + 1 := by omega
    · rw [byteAt_set_self (by omega)]
      exact fun h => hx h.1.symm
    · rw [byteAt_set_self (by omega)]
      exact fun h => hx h.2.symm

/-- R154: a changed first byte is wrong, since only one value of it is right. -/
theorem firstByteWrong_set {x : Byte} (hfirst : ¬ firstByteWrong k A B) (hlen : 0 < B.length) (hx : x ≠ byteAt B 0) :
    firstByteWrong k A (B.set 0 x) := by
  by_contra hright
  rw [not_firstByteWrong_iff] at hfirst hright
  rw [byteAt_set_self hlen] at hright
  exact hx (hright.1.trans hfirst.1.symm)

/-- R154: a changed byte of the header behind the first one breaks the structure; of a discovery reply's count only
when it is raised. -/
theorem structureWrong_set {i : Nat} {x : Byte} (hstruct : ¬ structureWrong p k B) (hlen : B.length = frameEnd k B)
    (hpos : i ≠ 0) (hheader : i ≤ headerLast k) (hx : x ≠ byteAt B i)
    (hcount : k = .discover → i = 2 → (byteAt B 2).toNat < x.toNat) : structureWrong p k (B.set i x) := by
  have hend := headerLast_lt_frameEnd k B
  have hi : byteAt (B.set i x) i = x := byteAt_set_self (by omega)
  by_contra hright
  rw [not_structureWrong_iff] at hstruct hright
  obtain ⟨hfun, -, h32, hecho, -⟩ := hstruct
  obtain ⟨hfun', hfits', h32', hecho', -⟩ := hright
  rcases le_headerLast_iff.mp hheader with hlow | ⟨rfl, rfl⟩
  · obtain rfl | rfl : i = 1 ∨ i = 2 := by omega
    · exact hx (hi.symm.trans (hfun'.trans hfun.symm))
    · cases k with
      | discover =>
        have hraised := hcount rfl rfl
        have hroom := hfits' (by simp)
        simp only [hi, List.length_set, hlen, frameEnd] at hroom
        omega
      | assign => exact hx (hi.symm.trans ((hecho' rfl).1.trans (hecho rfl).1.symm))
      | read => exact hx (hi.symm.trans (BitVec.eq_of_toNat_eq ((h32' rfl).trans (h32 rfl).symm)))
  · exact hx (hi.symm.trans ((hecho' rfl).2.trans (hecho rfl).2.symm))

/-- R154 (consequences): one changed byte of a `Valid` reply that is one frame long, for every kind. -/
theorem parse_set_of_valid {pl : Payload} {i : Nat} {x : Byte} (hstrict : p.strictTrail = false)
    (hvalid : parse p k A B = .valid pl) (hlen : B.length = frameEnd k B) (hi : i < B.length) (hx : x ≠ byteAt B i)
    (hcount : k = .discover → i = 2 → (byteAt B 2).toNat < x.toNat) :
    parse p k A (B.set i x) =
      if i = 0 then .unexpected else if i ≤ headerLast k then .malformed else .checksumMismatch := by
  obtain ⟨hlong, hfirst, hstruct, hsum, -⟩ := checks_of_parse_eq_valid hvalid
  have hlong' : ¬ tooShort k (B.set i x) := by rwa [tooShort, List.length_set]
  split_ifs with hzero hheader
  · subst hzero
    exact parse_of_firstByteWrong hlong' (firstByteWrong_set hfirst hi hx) p
  · have hfirst' : ¬ firstByteWrong k A (B.set i x) := by
      rwa [not_firstByteWrong_iff, byteAt_set_ne hzero, ← not_firstByteWrong_iff]
    exact parse_of_structureWrong hlong' hfirst' (structureWrong_set hstruct hlen hzero hheader hx hcount)
  · have hsame : SameHeader k B (B.set i x) := sameHeader_set (not_le.mp hheader) x
    exact parse_of_checksumWrong hlong' (mt hsame.firstByteWrong_iff.mp hfirst)
      (hsame.not_structureWrong (by simp) hstrict hstruct)
      (checksumWrong_set hsum hlen.ge (hlen ▸ hi) (not_le.mp hheader) hx)

/-! ### Bytes behind the frame (R146, R81) -/

theorem byteAt_append_left {i : Nat} (hi : i < B.length) (T : List Byte) : byteAt (B ++ T) i = byteAt B i := by
  simp [byteAt, List.getElem?_append_left hi]

theorem sameHeader_append (hfits : frameEnd k B ≤ B.length) (T : List Byte) : SameHeader k B (B ++ T) := by
  have hend := headerLast_lt_frameEnd k B
  exact fun j hj => byteAt_append_left (by omega) T

theorem not_tooShort_append (hlong : ¬ tooShort k B) (T : List Byte) : ¬ tooShort k (B ++ T) := by
  unfold tooShort at hlong ⊢
  rw [List.length_append]
  omega

theorem checksumWrong_append (hfits : frameEnd k B ≤ B.length) (T : List Byte) :
    checksumWrong k (B ++ T) ↔ checksumWrong k B := by
  have hend := headerLast_lt_frameEnd k B
  rw [checksumWrong, checksumWrong, (sameHeader_append hfits T).frameEnd_eq, List.take_append_of_le_length (by omega),
    byteAt_append_left (by omega), byteAt_append_left (by omega)]

theorem discValue_append {L : Nat} (hL : 3 + L ≤ B.length) (T : List Byte) :
    discValue (B ++ T) L = discValue B L := by
  rw [discValue, discValue, List.drop_append_of_le_length (by omega),
    List.take_append_of_le_length (by rw [List.length_drop]; omega)]

/-- The floats are read before index 35. -/
theorem floatsOf_congr (h : ∀ i < 35, byteAt B' i = byteAt B i) (f : FloatPerm) : floatsOf f B' = floatsOf f B := by
  simp [floatsOf, floatAt, h]

theorem payloadOf_append (hfits : frameEnd k B ≤ B.length) (p : Params) (T : List Byte) :
    payloadOf p (B ++ T) k = payloadOf p B k := by
  cases k with
  | discover =>
    simp only [frameEnd] at hfits
    have hcount : countOf (B ++ T) = countOf B := by rw [countOf, countOf, byteAt_append_left (by omega)]
    rw [payloadOf, payloadOf, hcount, discValue_append (by unfold countOf; omega)]
  | assign =>
    simp only [frameEnd] at hfits
    rw [payloadOf, payloadOf, byteAt_append_left (by omega)]
  | read =>
    simp only [frameEnd] at hfits
    rw [payloadOf, payloadOf, floatsOf_congr fun i hi => byteAt_append_left (by omega) T]

/-- R146: with `STRICT_TRAIL` false, bytes behind the frame of a `Valid` reply are ignored. -/
theorem parse_append_of_valid {pl : Payload} (hvalid : parse p k A B = .valid pl) (hstrict : p.strictTrail = false)
    (T : List Byte) : parse p k A (B ++ T) = .valid pl := by
  obtain ⟨hlong, hfirst, hstruct, hsum, rfl⟩ := checks_of_parse_eq_valid hvalid
  have hfits := frameEnd_le_length hlong hstruct
  have hsame := sameHeader_append hfits T
  rw [← payloadOf_append hfits p T]
  exact parse_eq_valid (not_tooShort_append hlong T) (mt hsame.firstByteWrong_iff.mp hfirst)
    (hsame.not_structureWrong (by simp) hstrict hstruct) (mt (checksumWrong_append hfits T).mp hsum)

/-- R146: with `STRICT_TRAIL` true, bytes behind the frame of a `Valid` reply make it `Malformed`. -/
theorem parse_append_of_valid_strict {pl : Payload} (hvalid : parse p k A B = .valid pl)
    (hstrict : p.strictTrail = true) {T : List Byte} (hT : T ≠ []) : parse p k A (B ++ T) = .malformed := by
  obtain ⟨hlong, hfirst, hstruct, -, -⟩ := checks_of_parse_eq_valid hvalid
  have hfits := frameEnd_le_length hlong hstruct
  have hsame := sameHeader_append hfits T
  obtain ⟨-, -, -, -, hexact⟩ := not_structureWrong_iff.mp hstruct
  have hlonger : (B ++ T).length ≠ frameEnd k (B ++ T) := by
    rw [hsame.frameEnd_eq, ← hexact hstrict]
    simpa using hT
  exact parse_of_structureWrong (not_tooShort_append hlong T) (mt hsame.firstByteWrong_iff.mp hfirst)
    (.inr (.inr (.inr (.inr ⟨hstrict, hlonger⟩))))

end

/-! ### Replies that carry their checksum (R75 to R77) -/

/-- Two checksum bytes that read as the body's checksum close it. -/
theorem append_eq_closed {body : List Byte} {c d : Byte} (h : le16 c d = crc16 body) :
    body ++ [c, d] = closed body := by
  have hc : c = lo8 (crc16 body) := by rw [← h, lo8_le16]
  have hd : d = hi8 (crc16 body) := by rw [← h, hi8_le16]
  rw [hc, hd]
  rfl

@[simp] theorem closed_length (body : List Byte) : (closed body).length = body.length + 2 := by simp [closed]

/-- R145: a closed body has the right checksum when the frame is the closed body. -/
theorem not_checksumWrong_closed {k : Kind} {body : List Byte} (hend : frameEnd k (closed body) = body.length + 2) :
    ¬ checksumWrong k (closed body) := by
  have hsum := crc16_take_frame (body := body) rfl
  rw [checksumWrong, hend, not_not]
  exact hsum

section
variable {p : Params} {A : Byte}

/-- R147: a read reply from the known address. -/
theorem parse_read_closed {data : List Byte} (hA : A ≠ 0x00) (hdata : data.length = 32) :
    parse p .read A (closed ([A, 0x04, 0x20] ++ data)) =
      .valid (.read (floatsOf p.floatPerm (closed ([A, 0x04, 0x20] ++ data)))) := by
  have hlen : (closed ([A, 0x04, 0x20] ++ data)).length = 37 := by simp [hdata]
  refine parse_eq_valid (k := .read) ?_ ?_ ?_ (not_checksumWrong_closed ?_)
  · rw [tooShort, hlen]; decide
  · exact not_firstByteWrong_iff.mpr ⟨rfl, fun _ => hA⟩
  · exact not_structureWrong_iff.mpr ⟨rfl, fun _ => hlen.ge, fun _ => rfl, by simp, fun _ => hlen⟩
  · simp [frameEnd, hdata]

/-- R150: a discovery reply, whatever address is known. -/
theorem parse_discover_closed {data : List Byte} (hdata : data.length ≤ 255) :
    parse p .discover A (closed ([0x00, 0x04, BitVec.ofNat 8 data.length] ++ data)) =
      .valid (.discover (positional data)) := by
  have hcount : (BitVec.ofNat 8 data.length).toNat = data.length := Nat.mod_eq_of_lt (by omega)
  let B := closed ([0x00, 0x04, BitVec.ofNat 8 data.length] ++ data)
  have hend : frameEnd .discover B = 3 + data.length + 2 := congrArg (3 + · + 2) hcount
  have hlen : B.length = 3 + data.length + 2 := by simp [B]; omega
  have hvalue : discValue B (countOf B) = positional data := by
    have hL : countOf B = data.length := hcount
    rw [hL]
    exact congrArg positional (fields_of_header_append _ _ _ data _ _).1
  rw [← hvalue]
  refine parse_eq_valid (k := .discover) ?_ ?_ ?_ (not_checksumWrong_closed (by rw [hend]; simp; omega))
  · rw [tooShort, hlen, if_neg (by simp)]
    omega
  · exact not_firstByteWrong_iff.mpr ⟨rfl, by simp⟩
  · exact not_structureWrong_iff.mpr ⟨rfl, fun _ => (hend.trans hlen.symm).le, by simp, by simp,
      fun _ => hlen.trans hend.symm⟩

/-- R152: an assignment reply, whatever address is known and whatever stands at index 4. -/
theorem parse_assign_closed (x v : Byte) :
    parse p .assign A (closed [0x00, 0x06, 0x00, 0x20, x, v]) = .valid (.assign v) := by
  refine parse_eq_valid (k := .assign) ?_ ?_ ?_ (not_checksumWrong_closed rfl)
  · simp [tooShort]
  · exact not_firstByteWrong_iff.mpr ⟨rfl, by simp⟩
  · exact not_structureWrong_iff.mpr ⟨rfl, by simp, by simp, fun _ => ⟨rfl, rfl⟩, fun _ => rfl⟩

end

/-! ### The values of a reply (R147, R149, R151) -/

/-- R151: the model's sum, byte by byte, is the weighted sum. -/
theorem positional_eq_weightedSum (data : List Byte) : positional data = weightedSum data := by
  induction data with
  | nil => rfl
  | cons b bs ih =>
    have hterm : ∀ i, (byteAt (b :: bs) (i + 1)).toNat * 2 ^ (8 * (i + 1)) =
        256 * ((byteAt bs i).toNat * 2 ^ (8 * i)) := by
      intro i
      rw [Nat.mul_add, Nat.pow_add]
      change (byteAt bs i).toNat * (2 ^ (8 * i) * 256) = _
      ring
    have hfirst : (byteAt (b :: bs) 0).toNat * 2 ^ (8 * 0) = b.toNat := Nat.mul_one _
    rw [positional, ih, weightedSum, weightedSum, List.length_cons, Finset.sum_range_succ', hfirst, Finset.mul_sum,
      Nat.add_comm, Finset.sum_congr rfl fun i _ => hterm i]

/-- R147: float `k` stands at index 3 + 4k. -/
theorem floatsOf_get (p : Params) (B : List Byte) (k : Fin 8) :
    (floatsOf p.floatPerm B).get k = wireFloat p B (3 + 4 * k.val) := by
  fin_cases k <;> rfl

/-- R149: `FLOAT_PERM` names a byte of the group by its index. -/
theorem wireByte_eq_byteAt (w0 w1 w2 w3 : Byte) (j : Fin 4) :
    wireByte w0 w1 w2 w3 j = byteAt [w0, w1, w2, w3] j.val := by
  fin_cases j <;> rfl

/-- R149: under the default order the value is `{w1, w0, w3, w2}`. -/
theorem floatBits_default (w0 w1 w2 w3 : Byte) :
    floatBits defaultParams.floatPerm w0 w1 w2 w3 = w1 ++ w0 ++ w3 ++ w2 := rfl

/-- R149: the bytes of the value, least significant first. -/
theorem floatBits_bytes (f : FloatPerm) (w0 w1 w2 w3 : Byte) :
    (floatBits f w0 w1 w2 w3).extractLsb' 0 8 = wireByte w0 w1 w2 w3 f.m0 ∧
    (floatBits f w0 w1 w2 w3).extractLsb' 8 8 = wireByte w0 w1 w2 w3 f.m1 ∧
    (floatBits f w0 w1 w2 w3).extractLsb' 16 8 = wireByte w0 w1 w2 w3 f.m2 ∧
    (floatBits f w0 w1 w2 w3).extractLsb' 24 8 = wireByte w0 w1 w2 w3 f.m3 := by
  unfold floatBits
  refine ⟨BitVec.extractLsb'_append_eq_right, ?_, ?_, ?_⟩
  · rw [BitVec.extractLsb'_append_eq_of_le (le_refl 8)]
    exact BitVec.extractLsb'_append_eq_right
  · rw [BitVec.extractLsb'_append_eq_of_le (by decide), BitVec.extractLsb'_append_eq_of_le (by decide)]
    exact BitVec.extractLsb'_append_eq_right
  · rw [BitVec.extractLsb'_append_eq_of_le (by decide), BitVec.extractLsb'_append_eq_of_le (by decide)]
    exact BitVec.extractLsb'_append_eq_left

/-- R149: a value laid out under the default order reads back bit for bit. -/
theorem floatBits_wireOf (w : Word) :
    floatBits defaultParams.floatPerm (byteAt (wireOf w) 0) (byteAt (wireOf w) 1) (byteAt (wireOf w) 2)
      (byteAt (wireOf w) 3) = w := by
  have hjoin : w.extractLsb' 24 8 ++ w.extractLsb' 16 8 ++ w.extractLsb' 8 8 ++ w.extractLsb' 0 8 = w := by
    rw [BitVec.extractLsb'_append_extractLsb'_eq_extractLsb' (show 24 = 16 + 8 from rfl),
      BitVec.extractLsb'_append_extractLsb'_eq_extractLsb' (show 16 = 8 + 8 from rfl),
      BitVec.extractLsb'_append_extractLsb'_eq_extractLsb' (show 8 = 0 + 8 from rfl), BitVec.extractLsb'_eq_self]
  exact hjoin

/-- R75, R149: the floats of a read reply that carries `m` in the default order are `m`. -/
theorem floatsOf_wireSet (a : Byte) (m : MeasSet) :
    floatsOf defaultParams.floatPerm (closed ([a, 0x04, 0x20] ++ wireSet m)) = m := by
  have hwire := floatBits_wireOf
  cases m
  simp only [floatsOf, MeasSet.mk.injEq]
  exact ⟨hwire _, hwire _, hwire _, hwire _, hwire _, hwire _, hwire _, hwire _⟩

/-- R75: the values that a read reply's data hold, wherever it is read from. -/
theorem wireFloat_data (p : Params) (a : Byte) {data : List Byte} (hdata : data.length = 32) (k : Fin 8) :
    wireFloat p (closed ([a, 0x04, 0x20] ++ data)) (3 + 4 * k.val) = wireFloat p data (4 * k.val) := by
  have hbyte : ∀ i < 32, byteAt (closed ([a, 0x04, 0x20] ++ data)) (3 + i) = byteAt data i := by
    intro i hi
    rw [closed, byteAt_append_left (by simp; omega)]
    simp [byteAt, Nat.add_comm 3 i]
  simp only [wireFloat, Nat.add_assoc]
  rw [hbyte _ (by omega), hbyte _ (by omega), hbyte _ (by omega), hbyte _ (by omega)]

/-- R228: the low byte of the sum is the first data byte. -/
theorem ofNat_positional (data : List Byte) : BitVec.ofNat 8 (positional data) = byteAt data 0 := by
  cases data with
  | nil => rfl
  | cons b bs =>
    apply BitVec.eq_of_toNat_eq
    simp [positional, byteAt, Nat.mod_eq_of_lt b.isLt]

theorem ofNat_discValue (B : List Byte) :
    BitVec.ofNat 8 (discValue B (countOf B)) = if byteAt B 2 = 0x00 then 0x00 else byteAt B 3 := by
  rw [discValue, ofNat_positional]
  split_ifs with h
  · rw [countOf, h]
    rfl
  · have hpos : 0 < countOf B := Nat.pos_of_ne_zero fun h0 => h (BitVec.eq_of_toNat_eq h0)
    simp [byteAt, hpos]

/-! ### `RSP.PARSE` (R155 to R157) -/

theorem exec_rspParse {s : State} {k : Kind} (hk : s.reqKind = some k) (hcap : s.rxLen ≤ s.params.rxCap) :
    exec .rspParse s = .next (s.finishParse k (parse s.params k s.addr s.rxBytes)) := by
  simp only [exec, execRspParse, hk, if_pos hcap]

/-- R155: the result of a parse stands in `OUTCOME`, whatever it commits. -/
@[simp] theorem State.finishParse_outcome (s : State) (k : Kind) (r : ParseResult) :
    (s.finishParse k r).outcome = resultCode r := by
  cases r with
  | valid pl => cases pl <;> rfl
  | checksumMismatch => rfl
  | malformed => rfl
  | unexpected => rfl

/-- R155: an `RSP.PARSE` that ends in `Valid` is a `Valid` parse of the buffer, finished. -/
theorem exec_rspParse_valid {s t : State} {k : Kind} (hk : s.reqKind = some k) (h : exec .rspParse s = .next t)
    (hvalid : t.outcome = .valid) : t = s.finishParse k (.valid (payloadOf s.params s.rxBytes k)) := by
  obtain ⟨k', hk', -, rfl⟩ := execRspParse_next h
  obtain rfl : k' = k := Option.some.inj (hk'.symm.trans hk)
  rw [State.finishParse_outcome] at hvalid
  cases hres : parse s.params k' s.addr s.rxBytes with
  | valid pl =>
    obtain ⟨-, -, -, -, rfl⟩ := checks_of_parse_eq_valid hres
    rfl
  | checksumMismatch => rw [hres] at hvalid; cases hvalid
  | malformed => rw [hres] at hvalid; cases hvalid
  | unexpected => rw [hres] at hvalid; cases hvalid

/-! ### The obligations -/

/-- Settles O21: the rows of R154's table, each with the checks before it passed. -/
theorem parseGivesTheFirstOutcomeThatApplies : Obligations.ParseGivesTheFirstOutcomeThatApplies :=
  fun p _ A _ => ⟨fun hshort => parse_of_tooShort hshort p A,
    fun hlong hfirst => parse_of_firstByteWrong hlong hfirst p, parse_of_structureWrong, parse_of_checksumWrong,
    fun hlong hfirst hstruct hsum => ⟨_, parse_eq_valid hlong hfirst hstruct hsum⟩⟩

/-- Settles O27: the payload of a `Valid` read is the eight floats, and the default order undoes `wireSet`. -/
theorem readReplyGivesItsValuesBitForBit : Obligations.ReadReplyGivesItsValuesBitForBit := by
  refine ⟨fun p A B pl hvalid => ?_, fun p a m hperm ha => ?_⟩
  · obtain ⟨-, -, -, -, rfl⟩ := checks_of_parse_eq_valid hvalid
    exact ⟨_, rfl, floatsOf_get p B⟩
  · rw [parse_read_closed ha rfl, hperm, floatsOf_wireSet]

/-- Settles O28: the reply is `Valid` with the model's sum, which is the weighted one. -/
theorem discoveryReplyGivesTheWeightedSum : Obligations.DiscoveryReplyGivesTheWeightedSum := by
  intro p A data hdata
  rw [parse_discover_closed hdata, positional_eq_weightedSum]

/-- Settles O29: the payload and the checksum's boundary are those of a `Valid` assignment reply, and no check looks at
index 4, at the value or at the known address. -/
theorem assignmentReplyGivesIndexFive : Obligations.AssignmentReplyGivesIndexFive := by
  refine ⟨fun p A B pl hvalid => ?_, fun p A x v => parse_assign_closed x v⟩
  obtain ⟨-, -, -, hsum, hpayload⟩ := checks_of_parse_eq_valid hvalid
  exact ⟨hpayload, not_not.mp hsum⟩

/-- Settles O30: the frame lies in front of the added bytes, so they meet the trailing check alone. -/
theorem trailingBytesAreIgnoredUnlessStrict : Obligations.TrailingBytesAreIgnoredUnlessStrict :=
  fun _ _ _ _ T _ hvalid hT => ⟨fun hstrict => parse_append_of_valid hvalid hstrict T,
    fun hstrict => parse_append_of_valid_strict hvalid hstrict hT⟩

/-- Settles O31: the header of a read reply ends at index 2. -/
theorem oneChangedByteOfAReadReply : Obligations.OneChangedByteOfAReadReply :=
  fun _ _ _ _ _ _ hstrict hvalid hlen hi hx => parse_set_of_valid hstrict hvalid hlen (hlen ▸ hi) hx (by simp)

/-- Settles O32: the header of an assignment reply ends at index 3. -/
theorem oneChangedByteOfAnAssignmentReply : Obligations.OneChangedByteOfAnAssignmentReply :=
  fun _ _ _ _ _ _ hstrict hvalid hlen hi hx => parse_set_of_valid hstrict hvalid hlen (hlen ▸ hi) hx (by simp)

/-- Settles O33: the header of a discovery reply ends at index 2, and a raised count reaches past the buffer. -/
theorem oneChangedByteOfADiscoveryReply : Obligations.OneChangedByteOfADiscoveryReply :=
  fun _ _ _ _ _ _ hstrict hvalid hlen hi hx hcount => parse_set_of_valid hstrict hvalid hlen hi hx fun _ => hcount

/-- Settles O35: each of the three failures writes the status and `REQ_KIND` alone. -/
theorem aFailedParseKeepsTheSession : Obligations.AFailedParseKeepsTheSession := by
  intro s t h hfailed
  obtain ⟨k, hk, -, rfl⟩ := execRspParse_next h
  rw [State.finishParse_outcome] at hfailed ⊢
  rw [hk]
  cases hres : parse s.params k s.addr s.rxBytes with
  | valid pl => rw [hres] at hfailed; exact absurd rfl hfailed
  | checksumMismatch => exact ⟨rfl, .inl rfl⟩
  | malformed => exact ⟨rfl, .inr (.inl rfl)⟩
  | unexpected => exact ⟨rfl, .inr (.inr rfl)⟩

/-- Settles O36: the commit of a discovery truncates the sum to its first byte. -/
theorem discoveryStoresTheLowByte : Obligations.DiscoveryStoresTheLowByte := by
  intro s t hk h hvalid
  rw [exec_rspParse_valid hk h hvalid]
  exact ⟨rfl, ofNat_discValue s.rxBytes⟩

/-- Settles O37: the commit of an assignment takes `ADDR` from `REQ_ARG` and `ASG_VAL` from the reply. -/
theorem assignmentStoresTheRequestedAddress : Obligations.AssignmentStoresTheRequestedAddress := by
  intro s t hk h hvalid
  rw [exec_rspParse_valid hk h hvalid]
  exact ⟨rfl, rfl⟩

/-- Settles O43: the arrived reply is a closed read reply, `RSP.PARSE` finds it in `RXBUF`, and the commit takes its
floats. -/
theorem arrivedReadReplyFillsTheMeasurements : Obligations.ArrivedReadReplyFillsTheMeasurements := by
  intro s data c d hk haddr hcap hdata hsum
  let B := closed ([s.addr, 0x04, 0x20] ++ data)
  have hbytes : readReply s.addr data c d = B := append_eq_closed hsum
  have hfits : B.length ≤ s.params.rxCap := by simpa [B, hdata] using hcap
  let u := (s.setRx B).setAnswer (.parsed (parse s.params .read s.addr B))
  have harrive : exec (.frameRspRead s.addr data c d) s = .next u := by
    rw [← receiveReply_of_fits hfits, ← hbytes]
    rfl
  have hread : u.rxBytes = B := State.rxBytes_setRx s B
  have hvalid : parse u.params .read u.addr B = .valid (.read (floatsOf s.params.floatPerm B)) :=
    parse_read_closed haddr hdata
  have hparse : exec .rspParse u = .next (u.finishParse .read (.valid (.read (floatsOf s.params.floatPerm B)))) := by
    rw [exec_rspParse (s := u) hk hfits, hread, hvalid]
  refine ⟨_, (congrArg (andThen · _) harrive).trans hparse, rfl, rfl, rfl, rfl, fun k => ?_, fun m hperm hm => ?_⟩
  · exact (floatsOf_get s.params B k).trans (wireFloat_data s.params s.addr hdata k)
  · subst hm
    change floatsOf s.params.floatPerm B = m
    rw [hperm]
    exact floatsOf_wireSet s.addr m

/-- Settles O26: the value is made of the four wire bytes that `FLOAT_PERM` names. -/
theorem floatBytesFollowTheWireOrder : Obligations.FloatBytesFollowTheWireOrder := by
  refine ⟨fun f w0 w1 w2 w3 => ?_, floatBits_default⟩
  simp only [← wireByte_eq_byteAt]
  exact floatBits_bytes f w0 w1 w2 w3

/-- Settles O34: the word is the encoding of `RSP.PARSE`, which is refused without a request or with too large a count,
and else finishes the parse with the writes of its result. -/
theorem rspParseWritesTheResult : Obligations.RspParseWritesTheResult := by
  refine ⟨decode_encode (i := .rspParse) trivial, fun s hk => ?_, fun s hk hcap => ?_, fun s k hk hcap => ?_⟩
  · simp only [exec, execRspParse, hk]
  · obtain ⟨k, hk⟩ := Option.ne_none_iff_exists'.mp hk
    simp only [exec, execRspParse, hk, if_neg (not_le.mpr hcap)]
  · rw [exec_rspParse hk hcap]
    cases parse s.params k s.addr s.rxBytes with
    | valid pl => cases pl <;> rfl
    | checksumMismatch => rfl
    | malformed => rfl
    | unexpected => rfl

end Sys2Proof.Machine

/-! The statements of 43_system.md: reset, the host's accesses, and the three exchanges. An exchange is its request,
then the same end for all three: the frame is given, the reply is stored, and `RSP.PARSE` finishes the request with the
parse of that reply. -/

namespace Sys2Proof.Machine

open Sys2Proof.Claims

/-! ### Reset (R38, R180) -/

/-- R28, U7: each register of the set after a reset is the free value of its own number. -/
theorem freeMeasSet_get (epoch : Nat) (k : Fin 8) : (freeMeasSet epoch).get k = Config.freeMeas epoch k.val := by
  fin_cases k <;> rfl

/-! ### Host accesses (R181, R184) -/

/-- R184: `HOST.TX` gives as many bytes of `TXBUF` as `TX_LEN` says. -/
theorem hostTx_of_txLen {s : State} {n : BitVec 4} (hn : s.txLen = n) (hcap : n.toNat ≤ txCap) :
    hostTx s = .next (s.setAnswer (.bytes (s.txBytes n.toNat))) := by
  subst hn
  exact if_pos hcap

/-- R181: a byte sequence that fits the receive buffer is stored. -/
theorem hostRx_of_fits {B : List Byte} {s : State} (hfits : B.length ≤ s.params.rxCap) :
    hostRx B s = .next (s.setRx B) := if_pos hfits

/-- R181: after `HOST.RX` the receive buffer holds its bytes, and every byte behind them stays. -/
theorem rxHolds_setRx (s : State) (B : List Byte) : rxHolds s (s.setRx B) B :=
  rxHolds_setRx_setAnswer s B s.answer

/-- R181: after a single write the receive buffer holds that byte, and every other byte stays. -/
theorem readRx_setRxByte_self_and_ne (s : State) (i : Nat) (b : Byte) :
    (s.setRxByte i b).readRx i = b ∧ ∀ j, j ≠ i → (s.setRxByte i b).readRx j = s.readRx j :=
  ⟨by rw [State.readRx_setRxByte, if_pos rfl], fun j hj => by rw [State.readRx_setRxByte, if_neg hj.symm]⟩

/-! ### The end of an exchange (R204 steps 2 to 5) -/

/-- `s` after its frame of eight bytes has been given to the host and `reply` has arrived. -/
def State.exchanged (s : State) (reply : List Byte) : State := (s.setAnswer (.bytes (s.txBytes 8))).setRx reply

@[simp] theorem State.exchanged_addr (s : State) (reply : List Byte) : (s.exchanged reply).addr = s.addr := rfl
@[simp] theorem State.exchanged_crc (s : State) (reply : List Byte) : (s.exchanged reply).crc = s.crc := rfl
@[simp] theorem State.exchanged_reqArg (s : State) (reply : List Byte) : (s.exchanged reply).reqArg = s.reqArg := rfl
@[simp] theorem State.exchanged_meas (s : State) (reply : List Byte) : (s.exchanged reply).meas = s.meas := rfl
@[simp] theorem State.exchanged_measValid (s : State) (reply : List Byte) :
    (s.exchanged reply).measValid = s.measValid := rfl

/-- R26: the parser reads the reply that has arrived. -/
@[simp] theorem State.exchanged_rxBytes (s : State) (reply : List Byte) : (s.exchanged reply).rxBytes = reply :=
  State.rxBytes_setRx _ reply

@[simp] theorem State.setReqKind_rxBytes (s : State) (k : Option Kind) : (s.setReqKind k).rxBytes = s.rxBytes := rfl
@[simp] theorem State.recordOutcome_rxBytes (s : State) (o : OutcomeCode) (k : Kind) :
    (s.recordOutcome o k).rxBytes = s.rxBytes := rfl
@[simp] theorem State.setMeas_rxBytes (s : State) (m : MeasSet) : (s.setMeas m).rxBytes = s.rxBytes := rfl

/-- R156: what a `Valid` parse of each kind of payload writes. -/
theorem State.finishParse_valid_discover (s : State) (k : Kind) (v : Nat) :
    s.finishParse k (.valid (.discover v)) =
      (((s.recordOutcome .valid k).setDiscVal v).setAddr (BitVec.ofNat 8 v)).setReqKind none := rfl
theorem State.finishParse_valid_assign (s : State) (k : Kind) (v : Byte) :
    s.finishParse k (.valid (.assign v)) =
      (((s.recordOutcome .valid k).setAsgVal v).setAddr s.reqArg).setReqKind none := rfl
theorem State.finishParse_valid_read (s : State) (k : Kind) (m : MeasSet) :
    s.finishParse k (.valid (.read m)) = ((s.recordOutcome .valid k).setMeas m).setReqKind none := rfl

/-- R157: a failed parse writes its code, the kind, and `REQ_KIND`. -/
theorem State.finishParse_of_failsWith {r : ParseResult} {o : OutcomeCode} (h : failsWith r o) (s : State) (k : Kind) :
    s.finishParse k r = (s.recordOutcome o k).setReqKind none := by
  rcases h with ⟨rfl, rfl⟩ | ⟨rfl, rfl⟩ | ⟨rfl, rfl⟩ <;> rfl

/-- A failure's code is not that of `Valid`. -/
theorem failsWith_ne_valid {r : ParseResult} {o : OutcomeCode} (h : failsWith r o) : o ≠ .valid := by
  rcases h with ⟨-, rfl⟩ | ⟨-, rfl⟩ | ⟨-, rfl⟩ <;> decide

section
variable {s : State} {k : Kind} {reply : List Byte} (hk : s.reqKind = some k) (htx : s.txLen = 8)
  (hfits : reply.length ≤ s.params.rxCap)
include hk htx hfits

/-- With a request outstanding the end of an exchange finishes that request with the parse of the reply. -/
theorem finishExchange_eq : finishExchange reply s =
    .next ((s.exchanged reply).finishParse k (parse s.params k s.addr reply)) := by
  have hsend : hostTx s = .next (s.setAnswer (.bytes (s.txBytes 8))) := hostTx_of_txLen htx (by decide)
  have hreceive : hostRx reply (s.setAnswer (.bytes (s.txBytes 8))) = .next (s.exchanged reply) := hostRx_of_fits hfits
  have hparse := exec_rspParse (s := s.exchanged reply) hk hfits
  rw [State.exchanged_rxBytes] at hparse
  rw [finishExchange, hsend, andThen_next, hreceive, andThen_next, hparse]
  rfl

variable {α : Type} (value : State → α)

/-- R186 to R188, "if OUTCOME = Valid": the call returns what the host reads after the commit. -/
theorem giveBack_finishExchange_of_valid {pl : Payload} (hvalid : parse s.params k s.addr reply = .valid pl) :
    giveBack (resultOf value) (finishExchange reply s) =
      .next (.ok (value ((s.exchanged reply).finishParse k (.valid pl))),
        (s.exchanged reply).finishParse k (.valid pl)) := by
  rw [finishExchange_eq hk htx hfits, hvalid, giveBack_next, resultOf_valid value (State.finishParse_outcome ..)]

/-- R186 to R188, "else": the call returns the outcome, and only the status and `REQ_KIND` are written. -/
theorem giveBack_finishExchange_of_failsWith {o : OutcomeCode} (hfail : failsWith (parse s.params k s.addr reply) o) :
    giveBack (resultOf value) (finishExchange reply s) =
      .next (.error o, ((s.exchanged reply).recordOutcome o k).setReqKind none) := by
  rw [finishExchange_eq hk htx hfits, State.finishParse_of_failsWith hfail, giveBack_next,
    resultOf_failed value (failsWith_ne_valid hfail)]
  rfl

end

/-! ### The three exchanges (R186 to R188) -/

section
variable {s : State} {reply : List Byte}

/-- R186: a `Valid` discovery gives its value's low byte, which the commit has stored. -/
theorem discoverAddress_of_valid (hfits : reply.length ≤ s.params.rxCap) {v : Nat}
    (hvalid : parse s.params .discover s.addr reply = .valid (.discover v)) :
    discoverAddress reply s = .next (.ok (BitVec.ofNat 8 v),
      ((s.beginRequest .discover buildDiscover).exchanged reply).finishParse .discover (.valid (.discover v))) :=
  giveBack_finishExchange_of_valid (s := s.beginRequest .discover buildDiscover) rfl rfl hfits (fun t => t.addr) hvalid

/-- R187: a `Valid` assignment gives `Ok(())`. -/
theorem assignAddress_of_valid (n : Byte) (hfits : reply.length ≤ s.params.rxCap) {v : Byte}
    (hvalid : parse s.params .assign s.addr reply = .valid (.assign v)) :
    assignAddress n reply s = .next (.ok (),
      (((s.beginRequest .assign (buildAssign n)).setReqArg n).exchanged reply).finishParse .assign
        (.valid (.assign v))) :=
  giveBack_finishExchange_of_valid (s := (s.beginRequest .assign (buildAssign n)).setReqArg n) rfl rfl hfits
    (fun _ => ()) hvalid

/-- R188: with no address known the request fails, and that is the call's error. -/
theorem readMeasurements_of_unknown_addr (haddr : s.addr = broadcast) (reply : List Byte) :
    readMeasurements reply s = .next (.error .noAddressAssigned,
      ((s.recordOutcome .noAddressAssigned .read).clearTx).setReqKind none) := by
  have hreq : exec .reqRead s = .next (((s.recordOutcome .noAddressAssigned .read).clearTx).setReqKind none) :=
    if_pos haddr
  rw [readMeasurements, hreq]
  rfl

/-- R188: with an address known the read request is built, and the rest is the end of an exchange. -/
theorem readMeasurements_of_known_addr (haddr : s.addr ≠ broadcast) (reply : List Byte) :
    readMeasurements reply s =
      giveBack (resultOf fun t => t.meas) (finishExchange reply (s.beginRequest .read (buildRead s.addr))) := by
  have hreq : exec .reqRead s = .next (s.beginRequest .read (buildRead s.addr)) := if_neg haddr
  rw [readMeasurements, hreq]
  rfl

end

/-! ### The obligations -/

/-- Settles O48: `TX_LEN` says how many bytes are given, and the invariant says that they are the request's frame. -/
theorem hostTxGivesTheOutstandingFrame : Obligations.HostTxGivesTheOutstandingFrame := by
  refine ⟨fun s k hinv hk => ?_, fun s htx => hostTx_of_txLen htx (by decide),
    fun s htx => hostTx_of_txLen htx (by decide)⟩
  obtain ⟨-, -, hreq, -⟩ := hinv
  obtain ⟨-, htx, hframe, -⟩ := hreq k hk
  rw [← hframe]
  exact hostTx_of_txLen htx (by decide)

/-- Settles O57: the exchange finishes the discovery request with the parse of the reply, and a closed discovery reply
parses as the weighted sum of its data. -/
theorem discoverAddressExchange : Obligations.DiscoverAddressExchange := by
  refine ⟨fun s data hdata hcap => ?closed, fun s reply hfits => ⟨fun v hvalid => ?valid, fun o hfail => ?failed⟩⟩
  case closed =>
    have hvalid := parse_discover_closed (p := s.params) (A := s.addr) hdata
    rw [positional_eq_weightedSum] at hvalid
    exact ⟨_, discoverAddress_of_valid (by simpa using hcap) hvalid, by simp [State.finishParse_valid_discover]⟩
  case valid => exact ⟨_, discoverAddress_of_valid hfits hvalid, by simp [State.finishParse_valid_discover]⟩
  case failed =>
    exact ⟨_, giveBack_finishExchange_of_failsWith (s := s.beginRequest .discover buildDiscover) rfl rfl hfits
      (fun t => t.addr) hfail, by simp⟩

/-- Settles O58: the exchange finishes the assignment request with the parse of the reply, and the commit takes `ADDR`
from `REQ_ARG`, which the request has set to n. -/
theorem assignAddressExchange : Obligations.AssignAddressExchange := by
  refine ⟨fun s n x v hcap => ?closed, fun s n reply hfits => ⟨fun v hvalid => ?valid, fun o hfail => ?failed⟩⟩
  case closed =>
    exact ⟨_, assignAddress_of_valid n (by simpa using hcap) (parse_assign_closed x v),
      by simp [State.finishParse_valid_assign]⟩
  case valid => exact ⟨_, assignAddress_of_valid n hfits hvalid, by simp [State.finishParse_valid_assign]⟩
  case failed =>
    exact ⟨_, giveBack_finishExchange_of_failsWith (s := (s.beginRequest .assign (buildAssign n)).setReqArg n) rfl rfl
      hfits (fun _ => ()) hfail, by simp⟩

/-- Settles O59: without an address the request itself fails; with one the exchange finishes the read request with the
parse of the reply, which stands in `RXBUF`. -/
theorem readMeasurementsExchange : Obligations.ReadMeasurementsExchange := by
  intro s reply
  refine ⟨fun haddr => readMeasurements_of_unknown_addr haddr reply, fun haddr hfits => ?_⟩
  rw [readMeasurements_of_known_addr haddr]
  refine ⟨fun m hvalid => ?valid, fun o hfail => ?failed⟩
  case valid =>
    exact ⟨_, giveBack_finishExchange_of_valid (s := s.beginRequest .read (buildRead s.addr)) rfl rfl hfits
      (fun t => t.meas) hvalid, by simp [State.finishParse_valid_read]⟩
  case failed =>
    exact ⟨_, giveBack_finishExchange_of_failsWith (s := s.beginRequest .read (buildRead s.addr)) rfl rfl
      hfits (fun t => t.meas) hfail, by simp⟩

/-- Settles O38: the word is the encoding of `RESET`, which like power-on writes the values of `resetBlock`. -/
theorem resetRestoresTheControlRegisters : Obligations.ResetRestoresTheControlRegisters :=
  ⟨decode_encode (i := .reset) trivial, fun s => ⟨rfl, s.resetBlock, rfl, rfl, rfl, rfl, rfl, rfl, rfl, rfl, rfl⟩⟩

/-- Settles O39: the emptied buffers list no byte, and each data register takes its free value. -/
theorem resetLeavesTheDataUnspecified : Obligations.ResetLeavesTheDataUnspecified := by
  intro s t h
  obtain rfl : s.resetBlock = t := Host.Outcome.next.inj h
  exact ⟨Memory.read_nil, Memory.read_nil, rfl, freeMeasSet_get (s.epoch + 1), rfl, rfl, rfl, rfl, rfl, rfl⟩

/-- Settles O44: the bytes fit and are stored, or `RX_CAP` refuses them. -/
theorem hostRxStoresTheBytes : Obligations.HostRxStoresTheBytes :=
  fun B s => ⟨fun hfits => ⟨s.setRx B, hostRx_of_fits hfits, rxHolds_setRx s B, State.rxBytes_setRx s B, rfl⟩,
    fun hlong => if_neg (not_le.mpr hlong)⟩

/-- Settles O46: each of the three reads is its own guarded row of `hostRead`. -/
theorem payloadReadsNeedAValidPayload : Obligations.PayloadReadsNeedAValidPayload :=
  fun _ => ⟨fun _ => rfl, rfl, rfl⟩

/-- Settles O47: the two writable items have their rows of `hostWrite`, guarded by `RX_CAP`; every other row refuses. -/
theorem hostWritesReachOnlyTheReceiveBuffer : Obligations.HostWritesReachOnlyTheReceiveBuffer := by
  refine fun v s => ⟨fun r hbuf hlen => ?other, fun i hi => ?byte, fun i hi => if_neg (not_lt.mpr hi), rfl⟩
  case other =>
    cases r with
    | rxbuf i => exact absurd rfl (hbuf i)
    | rxLen => exact absurd rfl hlen
    | _ => rfl
  case byte =>
    obtain ⟨hself, hne⟩ := readRx_setRxByte_self_and_ne s i (BitVec.ofNat 8 v)
    exact ⟨s.setRxByte i (BitVec.ofNat 8 v), if_pos hi, hself, hne, rfl⟩

end Sys2Proof.Machine

/-! The statements of 60_exceptions.md: what each outcome of `OUTCOME` has for its cause, and which acts complete. A code
of `OUTCOME` is traced to the one instruction that can write it, and there to the row of R154's table, or the branch of
R127, that gives it. An act completes by the guards of its meaning, each of which is read once. -/

namespace Sys2Proof.Machine

open Sys2Proof.Claims

/-! ### Who writes `OUTCOME` (R31, R190) -/

/-- R31, R190: an instruction leaves `OUTCOME`, or clears it, or is `REQ.READ` without an address, or is `RSP.PARSE`
and writes the code of a result. -/
theorem exec_outcome_cases {i : Instr} {s t : State} (h : exec i s = .next t) :
    t.outcome = s.outcome ∨ t.outcome = .none ∨ (i = .reqRead ∧ t.outcome = .noAddressAssigned) ∨
      (i = .rspParse ∧ ∃ r, t.outcome = resultCode r) := by
  rcases exec_next h with ⟨-, rfl⟩ | ⟨b, -, rfl⟩ | ⟨-, rfl⟩ | ⟨n, -, rfl⟩ | ⟨rfl, -, rfl⟩ | ⟨-, -, rfl⟩ |
    ⟨k, rfl, -, -, rfl⟩ | ⟨-, rfl⟩ | ⟨a, rfl⟩ | ⟨B, a, -, rfl⟩
  · exact .inl rfl
  · exact .inl rfl
  · exact .inr (.inl rfl)
  · exact .inr (.inl rfl)
  · exact .inr (.inr (.inl ⟨rfl, rfl⟩))
  · exact .inr (.inl rfl)
  · exact .inr (.inr (.inr ⟨rfl, _, State.finishParse_outcome s k _⟩))
  · exact .inr (.inl rfl)
  · exact .inl rfl
  · exact .inl rfl

/-- R194: no result of `parse` has the code `NoAddressAssigned`. -/
theorem resultCode_ne_noAddressAssigned (r : ParseResult) : resultCode r ≠ .noAddressAssigned := by
  cases r <;> exact nofun

/-- R191 to R193: the code of a failed parse that stands after another instruction than `RSP.PARSE` stood before it. -/
theorem outcome_of_exec_ne_rspParse {i : Instr} {s t : State} {r : ParseResult} {o : OutcomeCode} (hfail : failsWith r o)
    (hex : exec i s = .next t) (ho : t.outcome = o) (hne : i ≠ .rspParse) : s.outcome = o := by
  rcases exec_outcome_cases hex with hkeeps | hclear | ⟨-, hread⟩ | ⟨hparse, -⟩
  · exact hkeeps.symm.trans ho
  · rcases hfail with ⟨-, rfl⟩ | ⟨-, rfl⟩ | ⟨-, rfl⟩ <;> cases hclear.symm.trans ho
  · rcases hfail with ⟨-, rfl⟩ | ⟨-, rfl⟩ | ⟨-, rfl⟩ <;> cases hread.symm.trans ho
  · exact absurd hparse hne

/-! ### What each failure of `parse` has for its cause (R191 to R193, R196) -/

section
variable (p : Params) (k : Kind) (A : Byte) (B : List Byte)

/-- The five rows of R154's table, one of which applies. -/
theorem parse_rows :
    (tooShort k B ∧ parse p k A B = .malformed) ∨
    (¬ tooShort k B ∧ firstByteWrong k A B ∧ parse p k A B = .unexpected) ∨
    (¬ tooShort k B ∧ ¬ firstByteWrong k A B ∧ structureWrong p k B ∧ parse p k A B = .malformed) ∨
    (¬ tooShort k B ∧ ¬ firstByteWrong k A B ∧ ¬ structureWrong p k B ∧ checksumWrong k B ∧
      parse p k A B = .checksumMismatch) ∨
    (¬ tooShort k B ∧ ¬ firstByteWrong k A B ∧ ¬ structureWrong p k B ∧ ¬ checksumWrong k B ∧
      parse p k A B = .valid (payloadOf p B k)) := by
  by_cases hshort : tooShort k B
  · exact .inl ⟨hshort, parse_of_tooShort hshort p A⟩
  by_cases hfirst : firstByteWrong k A B
  · exact .inr (.inl ⟨hshort, hfirst, parse_of_firstByteWrong hshort hfirst p⟩)
  rcases parse_cases_of_header (p := p) hshort hfirst with hstruct | hsum | hvalid
  · exact .inr (.inr (.inl ⟨hshort, hfirst, hstruct⟩))
  · exact .inr (.inr (.inr (.inl ⟨hshort, hfirst, hsum⟩)))
  · exact .inr (.inr (.inr (.inr ⟨hshort, hfirst, hvalid⟩)))

/-- R191. -/
theorem resultCode_parse_eq_checksumMismatch_iff : resultCode (parse p k A B) = .checksumMismatch ↔
    ¬ tooShort k B ∧ ¬ firstByteWrong k A B ∧ ¬ structureWrong p k B ∧ checksumWrong k B := by
  rcases parse_rows p k A B with ⟨hs, h⟩ | ⟨hs, hf, h⟩ | ⟨hs, hf, hw, h⟩ | ⟨hs, hf, hw, hc, h⟩ | ⟨hs, hf, hw, hc, h⟩ <;>
    simp [resultCode, *]

/-- R193. -/
theorem resultCode_parse_eq_unexpected_iff : resultCode (parse p k A B) = .unexpected ↔
    ¬ tooShort k B ∧ firstByteWrong k A B := by
  rcases parse_rows p k A B with ⟨hs, h⟩ | ⟨hs, hf, h⟩ | ⟨hs, hf, -, h⟩ | ⟨hs, hf, -, -, h⟩ | ⟨hs, hf, -, -, h⟩ <;>
    simp [resultCode, *]

/-- R192: the length alone, or the structure after the first byte. -/
theorem resultCode_parse_eq_malformed_iff : resultCode (parse p k A B) = .malformed ↔
    tooShort k B ∨ (¬ firstByteWrong k A B ∧ structureWrong p k B) := by
  rcases parse_rows p k A B with ⟨hs, h⟩ | ⟨hs, hf, h⟩ | ⟨hs, hf, hw, h⟩ | ⟨hs, hf, hw, -, h⟩ | ⟨hs, hf, hw, -, h⟩ <;>
    simp [resultCode, *]

end

/-! ### What completes (R197) -/

/-- A guarded meaning that else refuses completes exactly when its guard holds. -/
theorem exists_ite_refused_eq_next {c : Prop} [Decidable c] {u : State} {r : Refusal} :
    (∃ t : State, (if c then .next u else .refused r : Host.Outcome State Fault Refusal) = .next t) ↔ c := by
  by_cases hc : c <;> simp [hc]

/-- A guarded meaning that else faults completes exactly when its guard holds. -/
theorem exists_ite_fault_eq_next {c : Prop} [Decidable c] {u : State} {f : Fault} :
    (∃ t : State, (if c then .next u else .fault f : Host.Outcome State Fault Refusal) = .next t) ↔ c := by
  by_cases hc : c <;> simp [hc]

/-- R127: `REQ.READ` completes from every state, in `NoAddressAssigned` exactly when no address is known. -/
theorem exists_exec_reqRead (s : State) :
    ∃ t : State, exec .reqRead s = .next t ∧ (t.outcome = .noAddressAssigned ↔ s.addr = broadcast) := by
  by_cases haddr : s.addr = broadcast
  · exact ⟨_, if_pos haddr, iff_of_true rfl haddr⟩
  · exact ⟨_, if_neg haddr, iff_of_false nofun haddr⟩

/-- R155: `RSP.PARSE` completes with a request outstanding and a count that fits. -/
theorem exec_rspParse_completes_iff {s : State} :
    (∃ t, exec .rspParse s = .next t) ↔ s.reqKind ≠ none ∧ s.rxLen ≤ s.params.rxCap := by
  constructor
  · rintro ⟨t, h⟩
    obtain ⟨k, hk, hcap, -⟩ := execRspParse_next h
    exact ⟨by simp [hk], hcap⟩
  · rintro ⟨hk, hcap⟩
    obtain ⟨k, hk⟩ := Option.ne_none_iff_exists'.mp hk
    exact ⟨_, exec_rspParse hk hcap⟩

/-- R181, log 5: a reply row completes when the reply fits the receive buffer. -/
theorem receiveReply_completes_iff {k : Kind} {B : List Byte} {s : State} :
    (∃ t, receiveReply k B s = .next t) ↔ B.length ≤ s.params.rxCap :=
  ⟨fun ⟨_, h⟩ => (receiveReply_next h).1, fun hfits => ⟨_, receiveReply_of_fits hfits k⟩⟩

/-- R197 (a), (b), log 5: an instruction completes exactly when it is admitted. -/
theorem exec_completes_iff (i : Instr) (s : State) : (∃ t, exec i s = .next t) ↔ InstrAdmitted i s := by
  cases i with
  | reqRead =>
    obtain ⟨t, h, -⟩ := exists_exec_reqRead s
    exact iff_of_true ⟨t, h⟩ trivial
  | rspParse => exact exec_rspParse_completes_iff
  | frameRspRead a data c d => exact receiveReply_completes_iff.trans (by rw [readReply_length]; rfl)
  | frameRspDisc data c d => exact receiveReply_completes_iff.trans (by rw [discoverReply_length]; rfl)
  | frameRspAssign x v c d => exact receiveReply_completes_iff
  | _ => exact iff_of_true ⟨_, rfl⟩ trivial

/-- R197 (c), log 8: a presented code completes exactly when it decodes to an admitted instruction. -/
theorem issue_completes_iff (c : Code) (s : State) : (∃ t, issue c s = .next t) ↔ Admitted (.issue c) s := by
  cases hdec : decode c with
  | ok i => simpa only [issue_of_decode_ok hdec, Admitted, hdec] using exec_completes_iff i s
  | error e => simp [issue, Admitted, hdec]

/-- R184: `HOST.TX` completes, since `TX_LEN` is 0 or 8. -/
theorem exists_hostTx_eq_next {s : State} (hranges : RangesOk s) : ∃ t, hostTx s = .next t := by
  obtain ⟨-, hlen | hlen, -, -⟩ := hranges
  · exact ⟨_, hostTx_of_txLen hlen (by decide)⟩
  · exact ⟨_, hostTx_of_txLen hlen (by decide)⟩

/-- R197 (d), logs 7 and 9: a host read completes exactly when it is admitted. -/
theorem hostRead_completes_iff (r : HostReg) (s : State) : (∃ t, hostRead r s = .next t) ↔ ReadAdmitted r s := by
  cases r with
  | txbuf i => exact exists_ite_fault_eq_next
  | rxbuf i => exact exists_ite_fault_eq_next
  | meas k => exact exists_ite_refused_eq_next
  | discVal => exact exists_ite_refused_eq_next
  | asgVal => exact exists_ite_refused_eq_next
  | _ => exact iff_of_true ⟨_, rfl⟩ trivial

/-- R197 (b), (f), log 9: a host write completes exactly when it is admitted. -/
theorem hostWrite_completes_iff (r : HostReg) (v : Nat) (s : State) :
    (∃ t, hostWrite r v s = .next t) ↔ WriteAdmitted r v s := by
  constructor
  · rintro ⟨t, h⟩
    rcases hostWrite_next h with ⟨i, rfl, hi, -⟩ | ⟨rfl, hv, -⟩
    · exact hi
    · exact hv
  · intro hadm
    cases r with
    | rxbuf i => exact ⟨_, if_pos hadm⟩
    | rxLen => exact ⟨_, if_pos hadm⟩
    | _ => exact False.elim hadm

/-! ### The obligations -/

/-- Settles O22: the fourth row of R154's table, which `RSP.PARSE` alone writes to `OUTCOME`. -/
theorem checksumMismatchHasOneCause : Obligations.ChecksumMismatchHasOneCause :=
  ⟨fun s k hk hcap => ⟨_, exec_rspParse hk hcap, by
      rw [State.finishParse_outcome, resultCode_parse_eq_checksumMismatch_iff]⟩,
    fun _ _ _ => outcome_of_exec_ne_rspParse (.inl ⟨rfl, rfl⟩)⟩

/-- Settles O23: the second row of R154's table, which `RSP.PARSE` alone writes to `OUTCOME`. -/
theorem unexpectedComesFromTheFirstByteOnly : Obligations.UnexpectedComesFromTheFirstByteOnly :=
  ⟨fun s k hk hcap => ⟨_, exec_rspParse hk hcap, by
      rw [State.finishParse_outcome, resultCode_parse_eq_unexpected_iff]⟩,
    fun _ _ _ => outcome_of_exec_ne_rspParse (.inr (.inr ⟨rfl, rfl⟩))⟩

/-- Settles O24: the first and the third row of R154's table, which `RSP.PARSE` alone writes to `OUTCOME`. -/
theorem malformedHasTheListedCauses : Obligations.MalformedHasTheListedCauses :=
  ⟨fun s k hk hcap => ⟨_, exec_rspParse hk hcap, by
      rw [State.finishParse_outcome, resultCode_parse_eq_malformed_iff]⟩,
    fun _ _ _ => outcome_of_exec_ne_rspParse (.inr (.inl ⟨rfl, rfl⟩))⟩

/-- Settles O25: the failing branch of `REQ.READ`; no other instruction leaves a code that was not there but a cleared
one or a result's. -/
theorem noAddressAssignedHasOneCause : Obligations.NoAddressAssignedHasOneCause := by
  refine ⟨exists_exec_reqRead, fun i s t hex ho hne => ?_⟩
  rcases exec_outcome_cases hex with hkeeps | hclear | ⟨hread, -⟩ | ⟨-, r, hresult⟩
  · exact hkeeps.symm.trans ho
  · cases hclear.symm.trans ho
  · exact absurd hread hne
  · exact absurd (hresult.symm.trans ho) (resultCode_ne_noAddressAssigned r)

/-- Settles O56: each kind of act by the guards of its meaning; the ranges of the invariant let `HOST.TX` complete. -/
theorem admittedActsAndOnlyTheyComplete : Obligations.AdmittedActsAndOnlyTheyComplete := by
  intro a s hranges
  cases a with
  | powerOn => exact iff_of_true ⟨_, rfl⟩ trivial
  | issue c => exact issue_completes_iff c s
  | rx B => exact exists_ite_refused_eq_next
  | tx => exact iff_of_true (exists_hostTx_eq_next hranges) trivial
  | read r => exact hostRead_completes_iff r s
  | write r v => exact hostWrite_completes_iff r v s

end Sys2Proof.Machine
